-- ==== Sys2Proof/Word.lean ====
section
/-! DEFINITION. The word types of the MAX1720x register-decode block (spec/00_scope.md rules R7, R9, R10).
Bit 0 is the least significant bit of every vector (R9). -/

namespace Sys2Proof

/-- One byte on the two-wire bus (R12). -/
abbrev Byte := BitVec 8

/-- RawWord: the 16-bit unsigned word assembled from two response bytes (R7, R30). -/
abbrev RawWord := BitVec 16

/-- The 16-bit address of a logical register; R27 bounds every one that occurs by 0x1FF. -/
abbrev RegAddress := BitVec 16

/-- A 7-bit bus device address (R7, R40). -/
abbrev DevAddr := BitVec 7

/-- The 8-bit register offset, the one request byte of a transaction (R7, R40). -/
abbrev RegOffset := BitVec 8

end Sys2Proof
end

