-- ==== Sys2Proof/Config.lean ====
section
/-! DEFINITION. What is fixed of the block (the logical registers, the decode kinds, the constants of spec/00_scope.md
rule R7) and what the source leaves open (rule R8), the latter as constants with no body. -/

namespace Sys2Proof

/-- The 13 logical registers, in the source's order (10_state.md rule R25). -/
inductive Register where
  | status | reportedCapacity | reportedStateOfCharge | voltage | current | timeToEmpty | timeToFull
  | fullCapacity | coulombCount | packVoltage | packConfig | romId | senseResistor
deriving DecidableEq, Repr

/-- The two registers `VOLT_REG` may name (R8, 92_eei_decisions.md D5). -/
inductive VoltReg where
  | voltage | packVoltage
deriving DecidableEq, Repr

/-- The logical register that `VOLT_REG` names. -/
def VoltReg.register : VoltReg → Register
  | .voltage => .voltage
  | .packVoltage => .packVoltage

/-- The decode kinds (30_encoding.md rule R64). -/
inductive Kind where
  | raw | status | soc | volt | curr
deriving DecidableEq, Repr

/-- The four queries (30_encoding.md rule R63). -/
inductive Query where
  | status | soc | volt | curr
deriving DecidableEq, Repr

/-- A value of `BusErr`, the bus transport's own error type (R8, 92_eei_decisions.md D13).
DESIGN CHOICE (log 3): the type is OPEN in the spec, so an error is an uninterpreted token. No definition of the
model looks at the token. -/
structure BusErr where
  token : Nat
deriving DecidableEq, Repr, Inhabited

/-- What the bus answers to `BusTransact(dev, [off], 2)`: exactly two bytes, the first received first, or the
transport's error (00_scope.md rule R12, 30_encoding.md rule R74). -/
inductive BusAnswer where
  | ok (b0 b1 : Byte)
  | err (e : BusErr)
deriving DecidableEq, Repr, Inhabited

namespace Config

/-- `DEV_LOWER` (R7, R28). -/
def devLower : DevAddr := 0x36

/-- `DEV_UPPER` (R7, R28). -/
def devUpper : DevAddr := 0x0B

/-- `BANK_LIMIT`, compared with strict greater-than (R7, R24). -/
def bankLimit : Nat := 0x100

/-- The greatest register address (R7, R27). -/
def maxRegAddress : Nat := 0x1FF

/-- Bytes every transaction reads (R7, R47). -/
def responseLength : Nat := 2

/-- Denominator of the state-of-charge scale 1/256 percent (R29). -/
def socDen : BitVec 13 := 256

/-- Denominator of the pack-voltage scale 0.00125 = 1/800 volt (R29). -/
def voltDen : BitVec 13 := 800

/-- Denominator of the current scale 0.00015625 = 1/6400 ampere (R29). -/
def currDen : BitVec 13 := 6400

/-- `VOLT_REG`'s default (R8, 92_eei_decisions.md D5). -/
def defaultVoltReg : VoltReg := .packVoltage

/-- The register map of the machine after reset, the OPEN parameter `REG_ADDR` (R8, R26): no body, so that no proof
sees an address. The 9 significant bits make every table that meets R27, and no other, a value of it.
DESIGN CHOICE (log 1). -/
opaque regAddr9 : Register → BitVec 9

/-- Free value: the answer of a transaction for which the state's answer script holds none (R17, D14: any two bytes
or any error). DESIGN CHOICE (log 4). -/
opaque freeAnswer : Nat → BusAnswer

/-- Free value: a byte seen on `RX0` or `RX1` after a failed transaction, which delivers none (R60, R140).
DESIGN CHOICE (log 5). -/
opaque freeByte : Nat → Byte

/-- Width of the host's floating-point format, which the source does not give (R109, 91_not_in_source.md N3).
DESIGN CHOICE (log 7). -/
opaque floatWidth : Nat

/-- `FLOAT_CONV` (R8, R109): the host's conversion of the exact value, outside the block. Nothing is known of it.
DESIGN CHOICE (log 7). -/
opaque floatConv : Rat → BitVec floatWidth

end Config

end Sys2Proof
end

