-- ==== Sys2Proof/Syntax.lean ====
section
/-! DEFINITION. The operations of the block as syntax: one constructor per row of spec/opcode_table.json, and the command
by which the caller drives one select port (spec/30_encoding.md rules R60, R70, R73). -/

namespace Sys2Proof

/-- The three select formats of the operation map (R70), each on its own port and with its own width: REG (4 bits, R61),
QRY (2 bits, R63), KIND (3 bits, R64). -/
inductive SelectPort where
  | reg | qry | kind
deriving DecidableEq, Repr

/-- Width in bits of a select format. -/
def SelectPort.width : SelectPort → Nat
  | .reg => 4
  | .qry => 2
  | .kind => 3

/-- What the caller asks for: a select code on one port, and the bytes it drives on `RX0`, `RX1` beside it. R73 encodes
DECODE as 'format REG plus the two bytes'; every other form has no operand byte.
DESIGN CHOICE (log 8): the code travels as one byte, and the decoder checks it against the port's width. -/
structure Command where
  port     : SelectPort
  code     : BitVec 8
  operands : List Byte
deriving DecidableEq, Repr

/-- The two response bytes, first received first (R68). -/
structure RxPair where
  b0 : Byte
  b1 : Byte
deriving DecidableEq, Repr

/-- One constructor per row of the opcode table. A REG row has the two textual forms of R73: with no bytes it is
`RESOLVE <register>`, with the two bytes it is `DECODE <register>, b0, b1`. -/
inductive Instr where
  | resolveStatus (rx : Option RxPair)
  | resolveReportedCapacity (rx : Option RxPair)
  | resolveReportedStateOfCharge (rx : Option RxPair)
  | resolveVoltage (rx : Option RxPair)
  | resolveCurrent (rx : Option RxPair)
  | resolveTimeToEmpty (rx : Option RxPair)
  | resolveTimeToFull (rx : Option RxPair)
  | resolveFullCapacity (rx : Option RxPair)
  | resolveCoulombCount (rx : Option RxPair)
  | resolvePackVoltage (rx : Option RxPair)
  | resolvePackConfig (rx : Option RxPair)
  | resolveRomId (rx : Option RxPair)
  | resolveSenseResistor (rx : Option RxPair)
  | reservedReg13 (rx : Option RxPair)
  | reservedReg14 (rx : Option RxPair)
  | reservedReg15 (rx : Option RxPair)
  | queryStatus
  | querySoc
  | queryVolt
  | queryCurr
  | kindRaw
  | kindStatus
  | kindSoc
  | kindVolt
  | kindCurr
  | reservedKind5
  | reservedKind6
  | reservedKind7
deriving DecidableEq, Repr

/-- The REG row of a logical register. -/
def Instr.resolve : Register → Option RxPair → Instr
  | .status, rx => .resolveStatus rx
  | .reportedCapacity, rx => .resolveReportedCapacity rx
  | .reportedStateOfCharge, rx => .resolveReportedStateOfCharge rx
  | .voltage, rx => .resolveVoltage rx
  | .current, rx => .resolveCurrent rx
  | .timeToEmpty, rx => .resolveTimeToEmpty rx
  | .timeToFull, rx => .resolveTimeToFull rx
  | .fullCapacity, rx => .resolveFullCapacity rx
  | .coulombCount, rx => .resolveCoulombCount rx
  | .packVoltage, rx => .resolvePackVoltage rx
  | .packConfig, rx => .resolvePackConfig rx
  | .romId, rx => .resolveRomId rx
  | .senseResistor, rx => .resolveSenseResistor rx

/-- The QRY row of a query. -/
def Instr.query : Query → Instr
  | .status => .queryStatus
  | .soc => .querySoc
  | .volt => .queryVolt
  | .curr => .queryCurr

/-- The KIND row of a decode kind. -/
def Instr.kind : Kind → Instr
  | .raw => .kindRaw
  | .status => .kindStatus
  | .soc => .kindSoc
  | .volt => .kindVolt
  | .curr => .kindCurr

end Sys2Proof
end

