-- ==== Sys2Proof/WellFormed.lean ====
section
/-! DEFINITION. Which instructions are well formed: those whose code the spec does not reserve (spec/30_encoding.md rules
R62, R64, R71). Operand widths need no check, since the types hold them. -/

namespace Sys2Proof

/-- The REG select code is one of the 13 registers' (R62). Other formats pass. -/
def Instr.regSelectNamed : Instr → Bool
  | .reservedReg13 _ | .reservedReg14 _ | .reservedReg15 _ => false
  | .resolveStatus _ | .resolveReportedCapacity _ | .resolveReportedStateOfCharge _ | .resolveVoltage _
  | .resolveCurrent _ | .resolveTimeToEmpty _ | .resolveTimeToFull _ | .resolveFullCapacity _
  | .resolveCoulombCount _ | .resolvePackVoltage _ | .resolvePackConfig _ | .resolveRomId _
  | .resolveSenseResistor _ => true
  | .queryStatus | .querySoc | .queryVolt | .queryCurr => true
  | .kindRaw | .kindStatus | .kindSoc | .kindVolt | .kindCurr => true
  | .reservedKind5 | .reservedKind6 | .reservedKind7 => true

/-- The KIND code is one of the five kinds (R64). Other formats pass. -/
def Instr.kindNamed : Instr → Bool
  | .reservedKind5 | .reservedKind6 | .reservedKind7 => false
  | .resolveStatus _ | .resolveReportedCapacity _ | .resolveReportedStateOfCharge _ | .resolveVoltage _
  | .resolveCurrent _ | .resolveTimeToEmpty _ | .resolveTimeToFull _ | .resolveFullCapacity _
  | .resolveCoulombCount _ | .resolvePackVoltage _ | .resolvePackConfig _ | .resolveRomId _
  | .resolveSenseResistor _ => true
  | .reservedReg13 _ | .reservedReg14 _ | .reservedReg15 _ => true
  | .queryStatus | .querySoc | .queryVolt | .queryCurr => true
  | .kindRaw | .kindStatus | .kindSoc | .kindVolt | .kindCurr => true

/-- An instruction is well formed when no select code of it is reserved (R71). -/
def Instr.wellFormed (i : Instr) : Bool := i.regSelectNamed && i.kindNamed

end Sys2Proof
end

