-- ==== Sys2Proof/Decode.lean ====
section
/-! DEFINITION. The decoder of the three select formats, total on every command and rejecting by name, and after it the
encoder, both from the tables of spec/30_encoding.md rules R61, R63, R64 and R73. -/

namespace Sys2Proof

/-- Why a command is no operation of the block. -/
inductive DecodeError where
  /-- The code has a bit above the port's width (R61: 4, R63: 2, R64: 3). -/
  | codeTooWide (port : SelectPort)
  /-- The number of operand bytes is none that R73 gives the format: 0 or 2 on REG, 0 elsewhere. -/
  | operandCount (port : SelectPort)
deriving DecidableEq, Repr

/-- The bytes a REG command drives on `RX0`, `RX1`: none (RESOLVE) or two (DECODE); any other number is no form (R73). -/
def rxOperand : List Byte → Option (Option RxPair)
  | [] => some none
  | [b0, b1] => some (some ⟨b0, b1⟩)
  | [_] => none
  | _ :: _ :: _ :: _ => none

/-- Format REG (R61). -/
def decodeReg (code : Nat) (rx : Option RxPair) : Except DecodeError Instr :=
  match code with
  | 0 => .ok (.resolveStatus rx)
  | 1 => .ok (.resolveReportedCapacity rx)
  | 2 => .ok (.resolveReportedStateOfCharge rx)
  | 3 => .ok (.resolveVoltage rx)
  | 4 => .ok (.resolveCurrent rx)
  | 5 => .ok (.resolveTimeToEmpty rx)
  | 6 => .ok (.resolveTimeToFull rx)
  | 7 => .ok (.resolveFullCapacity rx)
  | 8 => .ok (.resolveCoulombCount rx)
  | 9 => .ok (.resolvePackVoltage rx)
  | 10 => .ok (.resolvePackConfig rx)
  | 11 => .ok (.resolveRomId rx)
  | 12 => .ok (.resolveSenseResistor rx)
  | 13 => .ok (.reservedReg13 rx)
  | 14 => .ok (.reservedReg14 rx)
  | 15 => .ok (.reservedReg15 rx)
  | _ => .error (.codeTooWide .reg)

/-- Format QRY (R63). -/
def decodeQry (code : Nat) : Except DecodeError Instr :=
  match code with
  | 0 => .ok .queryStatus
  | 1 => .ok .querySoc
  | 2 => .ok .queryVolt
  | 3 => .ok .queryCurr
  | _ => .error (.codeTooWide .qry)

/-- Format KIND (R64). -/
def decodeKind (code : Nat) : Except DecodeError Instr :=
  match code with
  | 0 => .ok .kindRaw
  | 1 => .ok .kindStatus
  | 2 => .ok .kindSoc
  | 3 => .ok .kindVolt
  | 4 => .ok .kindCurr
  | 5 => .ok .reservedKind5
  | 6 => .ok .reservedKind6
  | 7 => .ok .reservedKind7
  | _ => .error (.codeTooWide .kind)

/-- The operation a command names. -/
def decode (c : Command) : Except DecodeError Instr :=
  match c.port with
  | .reg =>
    match rxOperand c.operands with
    | some rx => decodeReg c.code.toNat rx
    | none => .error (.operandCount .reg)
  | .qry => if c.operands = [] then decodeQry c.code.toNat else .error (.operandCount .qry)
  | .kind => if c.operands = [] then decodeKind c.code.toNat else .error (.operandCount .kind)

/-- The select port of an instruction's format (R70). -/
def Instr.port : Instr → SelectPort
  | .resolveStatus _ | .resolveReportedCapacity _ | .resolveReportedStateOfCharge _ | .resolveVoltage _
  | .resolveCurrent _ | .resolveTimeToEmpty _ | .resolveTimeToFull _ | .resolveFullCapacity _
  | .resolveCoulombCount _ | .resolvePackVoltage _ | .resolvePackConfig _ | .resolveRomId _
  | .resolveSenseResistor _ | .reservedReg13 _ | .reservedReg14 _ | .reservedReg15 _ => .reg
  | .queryStatus | .querySoc | .queryVolt | .queryCurr => .qry
  | .kindRaw | .kindStatus | .kindSoc | .kindVolt | .kindCurr
  | .reservedKind5 | .reservedKind6 | .reservedKind7 => .kind

/-- The select code of an instruction (R61, R63, R64). -/
def Instr.code : Instr → BitVec 8
  | .resolveStatus _ => 0b0000
  | .resolveReportedCapacity _ => 0b0001
  | .resolveReportedStateOfCharge _ => 0b0010
  | .resolveVoltage _ => 0b0011
  | .resolveCurrent _ => 0b0100
  | .resolveTimeToEmpty _ => 0b0101
  | .resolveTimeToFull _ => 0b0110
  | .resolveFullCapacity _ => 0b0111
  | .resolveCoulombCount _ => 0b1000
  | .resolvePackVoltage _ => 0b1001
  | .resolvePackConfig _ => 0b1010
  | .resolveRomId _ => 0b1011
  | .resolveSenseResistor _ => 0b1100
  | .reservedReg13 _ => 0b1101
  | .reservedReg14 _ => 0b1110
  | .reservedReg15 _ => 0b1111
  | .queryStatus => 0b00
  | .querySoc => 0b01
  | .queryVolt => 0b10
  | .queryCurr => 0b11
  | .kindRaw => 0b000
  | .kindStatus => 0b001
  | .kindSoc => 0b010
  | .kindVolt => 0b011
  | .kindCurr => 0b100
  | .reservedKind5 => 0b101
  | .reservedKind6 => 0b110
  | .reservedKind7 => 0b111

/-- The bytes of an `RX` operand, `RX0` first (R68, R73). -/
def rxBytes : Option RxPair → List Byte
  | none => []
  | some p => [p.b0, p.b1]

/-- The operand bytes of an instruction. -/
def Instr.operands : Instr → List Byte
  | .resolveStatus rx | .resolveReportedCapacity rx | .resolveReportedStateOfCharge rx | .resolveVoltage rx
  | .resolveCurrent rx | .resolveTimeToEmpty rx | .resolveTimeToFull rx | .resolveFullCapacity rx
  | .resolveCoulombCount rx | .resolvePackVoltage rx | .resolvePackConfig rx | .resolveRomId rx
  | .resolveSenseResistor rx | .reservedReg13 rx | .reservedReg14 rx | .reservedReg15 rx => rxBytes rx
  | .queryStatus | .querySoc | .queryVolt | .queryCurr => []
  | .kindRaw | .kindStatus | .kindSoc | .kindVolt | .kindCurr
  | .reservedKind5 | .reservedKind6 | .reservedKind7 => []

/-- The command that drives an instruction: its port, its code and its operand bytes (R61, R63, R64, R73). -/
def encode (i : Instr) : Command :=
  { port := i.port, code := i.code, operands := i.operands }

/-- The port a row of the opcode table stands on, as far as its number of bits says: 2 bits are format QRY, 3 are KIND,
any other number is REG. DESIGN CHOICE (log 9): the three formats use the same codes on three ports, so a row widened to
a whole byte no longer says which port it is on, and is read as REG. -/
def portOfWidth (nbits : Nat) : SelectPort :=
  match nbits with
  | 2 => .qry
  | 3 => .kind
  | _ => .reg

/-- Byte `k` of a word whose bit 0 is the least significant bit of the first byte. -/
def byteOf (w k : Nat) : Byte := BitVec.ofNat 8 (w / 256 ^ k)

/-- The command whose code is the word's first byte and whose operand bytes are the later ones, in order. -/
def commandOfWord (nbits w : Nat) : Command :=
  { port := portOfWidth nbits
    code := byteOf w 0
    operands := (List.range ((nbits + 7) / 8 - 1)).map fun k => byteOf w (k + 1) }

/-- The instruction the decoder reads from a word numbered as the opcode table numbers it. -/
def decodeTableWord (nbits w : Nat) : Option Instr :=
  match decode (commandOfWord nbits w) with
  | .ok i => some i
  | .error _ => none

end Sys2Proof
end

