-- ==== Sys2Proof/Machine/State.lean ====
section
/-! DEFINITION. The machine's state as plain data, its outputs and results, and why a step can stop. The block itself
holds nothing (spec/10_state.md rules R20 to R23): what stands here is its constants, the present values of its input
ports, and what its surroundings hold (the caller's pending commands, the bus's coming answers, what both have seen). -/

namespace Sys2Proof.Machine

/-- The register map `REG_ADDR` (R25, R26): one 16-bit address per logical register. -/
structure RegMap where
  status                : RegAddress
  reportedCapacity      : RegAddress
  reportedStateOfCharge : RegAddress
  voltage               : RegAddress
  current               : RegAddress
  timeToEmpty           : RegAddress
  timeToFull            : RegAddress
  fullCapacity          : RegAddress
  coulombCount          : RegAddress
  packVoltage           : RegAddress
  packConfig            : RegAddress
  romId                 : RegAddress
  senseResistor         : RegAddress
deriving DecidableEq, Repr

/-- The 13 independent flags of the Status word (R31). -/
structure StatusFlags where
  batteryRemoval     : Bool
  maxSocAlert        : Bool
  maxTempAlert       : Bool
  maxVoltageAlert    : Bool
  batteryInsertion   : Bool
  minSocAlert        : Bool
  minTempAlert       : Bool
  minVoltageAlert    : Bool
  socChange1PctAlert : Bool
  maxCurrentAlert    : Bool
  batteryStatus      : Bool
  minCurrentAlert    : Bool
  powerOnReset       : Bool
deriving DecidableEq, Repr

/-- The unit of a scaled value (R66). -/
inductive MeasurementUnit where
  | percent | volt | ampere
deriving DecidableEq, Repr

/-- An exact scaled value (R66, R75). -/
structure Measurement where
  value : Rat
  unit  : MeasurementUnit
deriving DecidableEq, Repr

/-- What the decoder makes of a word (`decodeBy`, R120): flags, a measurement, or for kind RAW the word alone (R106). -/
inductive DecodedValue where
  | statusFlags (f : StatusFlags)
  | measurement (m : Measurement)
  | raw (w : RawWord)
deriving DecidableEq, Repr

/-- The result of a query (R75): the decoded value, or the bus's error unchanged. -/
inductive QueryResult where
  | ok (v : DecodedValue)
  | err (e : BusErr)
deriving DecidableEq, Repr

/-- The resolver's output ports (R60). -/
structure ResolveOut where
  selValid  : Bool
  devAddr   : DevAddr
  bankUpper : Bool
  regOff    : RegOffset
  kind      : BitVec 3
deriving DecidableEq, Repr

/-- The decoder's output ports (R60). -/
structure DecodeOut where
  word       : RawWord
  flags      : BitVec 13
  flagsValid : Bool
  valValid   : Bool
  valNum     : BitVec 17
  valDen     : BitVec 13
deriving DecidableEq, Repr

/-- All output ports of the decode block (R60). -/
structure BlockOut where
  resolve : ResolveOut
  decode  : DecodeOut
deriving DecidableEq, Repr

/-- One bus transaction as requested (R67): device, bytes written, number of bytes to read. -/
structure BusRequest where
  dev : DevAddr
  tx  : List Byte
  n   : Nat
deriving DecidableEq, Repr

/-- What the caller gets from one operation (R73, R75). -/
inductive Observation where
  /-- `RESOLVE`: the select driven and the resolver's outputs. -/
  | resolved (sel : BitVec 4) (o : ResolveOut)
  /-- `DECODE`: the select driven and every output. -/
  | decoded (sel : BitVec 4) (o : BlockOut)
  /-- A KIND code: the code and what its datapath drives (R105). -/
  | datapath (kind : BitVec 3) (o : DecodeOut)
  /-- `QUERY`: which query, and its result. -/
  | query (q : Query) (r : QueryResult)
deriving DecidableEq, Repr

/-- Why the machine stops with a fault: never. No constructor, because the block has no trap and no exception (R13, R141,
R145): its one error, the transport failure, is a query's result and the machine goes on (R140, R146). Nobody raises one,
which is exact, hence safe. -/
inductive Fault : Type
deriving DecidableEq, Repr

/-- Why a step gives an operation no meaning. -/
inductive Refusal where
  /-- Raised by an arm of `exec` for an instruction whose meaning is not written. Safe. No arm does. -/
  | notModelled (mnemonic : String)
  /-- Raised by REG codes 13 to 15: 'A model must treat a reserved code as a refusal' (R62). Safe. -/
  | reservedRegSel (code : BitVec 4)
  /-- Raised by KIND codes 5 to 7: 'A model that reads `KIND` from outside must treat them as a refusal' (R64). Safe. -/
  | reservedKind (code : BitVec 3)
  /-- Raised by `step` for a command that is no operation of the block (a code wider than its port, operand bytes no form
  has). Safe: no such command can be driven on the ports of R60. -/
  | undecodable (e : DecodeError)
deriving DecidableEq, Repr

/-- The state. The first two fields are constants (R161); the next three the present values of the block's input ports
(R60, R162); then the surroundings: what the caller will ask (R16, R21), what the bus will answer (R17), what the bus and
the caller have seen (95_test_vectors.md section 3), and the counter of free values drawn (the model's own, log 6). -/
structure State where
  regMap  : RegMap
  voltReg : VoltReg
  regSel  : BitVec 4
  rx0     : Byte
  rx1     : Byte
  pending : List Command
  answers : List BusAnswer
  busLog  : List BusRequest
  results : List Observation
  draws   : Nat
deriving DecidableEq, Repr

/-- The register map of the OPEN parameter: each address the 9 significant bits in 16 (R27). -/
def RegMap.atReset : RegMap where
  status := (Config.regAddr9 .status).setWidth 16
  reportedCapacity := (Config.regAddr9 .reportedCapacity).setWidth 16
  reportedStateOfCharge := (Config.regAddr9 .reportedStateOfCharge).setWidth 16
  voltage := (Config.regAddr9 .voltage).setWidth 16
  current := (Config.regAddr9 .current).setWidth 16
  timeToEmpty := (Config.regAddr9 .timeToEmpty).setWidth 16
  timeToFull := (Config.regAddr9 .timeToFull).setWidth 16
  fullCapacity := (Config.regAddr9 .fullCapacity).setWidth 16
  coulombCount := (Config.regAddr9 .coulombCount).setWidth 16
  packVoltage := (Config.regAddr9 .packVoltage).setWidth 16
  packConfig := (Config.regAddr9 .packConfig).setWidth 16
  romId := (Config.regAddr9 .romId).setWidth 16
  senseResistor := (Config.regAddr9 .senseResistor).setWidth 16

/-- The machine right after power-up (R35, R160): the constants at their fixed values, nothing asked, answered or seen
yet. The spec gives the input ports no reset value; zero is a DESIGN CHOICE (log 2). -/
def State.reset : State where
  regMap := RegMap.atReset
  voltReg := Config.defaultVoltReg
  regSel := 0
  rx0 := 0
  rx1 := 0
  pending := []
  answers := []
  busLog := []
  results := []
  draws := 0

end Sys2Proof.Machine
end

