-- ==== Sys2Proof/Machine/Operands.lean ====
section
/-! DEFINITION. How the block's operands are assembled (spec/30_encoding.md rule R69): the register map's lookups, the
address resolver (40_resolver.md), word assembly and the numbers of the scale decoders (41_decoder.md). -/

namespace Sys2Proof.Machine

/-- `REG_ADDR(r)` (R26). -/
def RegMap.addr (m : RegMap) : Register → RegAddress
  | .status => m.status
  | .reportedCapacity => m.reportedCapacity
  | .reportedStateOfCharge => m.reportedStateOfCharge
  | .voltage => m.voltage
  | .current => m.current
  | .timeToEmpty => m.timeToEmpty
  | .timeToFull => m.timeToFull
  | .fullCapacity => m.fullCapacity
  | .coulombCount => m.coulombCount
  | .packVoltage => m.packVoltage
  | .packConfig => m.packConfig
  | .romId => m.romId
  | .senseResistor => m.senseResistor

/-- The informative table `REG_ADDR_GK` of 10_state.md section 5. PRESUMED: from general knowledge, possibly wrong in any
row; a named instance for examples and never the machine's map (93_implementation_defined.md G3, log 1). -/
def RegMap.gk : RegMap where
  status := 0x000
  reportedCapacity := 0x005
  reportedStateOfCharge := 0x006
  voltage := 0x009
  current := 0x00A
  timeToEmpty := 0x011
  timeToFull := 0x020
  fullCapacity := 0x010
  coulombCount := 0x04D
  packVoltage := 0x0DA
  packConfig := 0x1B5
  romId := 0x1BC
  senseResistor := 0x1CF

/-- The select code of a register (R61). -/
def selectOf : Register → BitVec 4
  | .status => 0
  | .reportedCapacity => 1
  | .reportedStateOfCharge => 2
  | .voltage => 3
  | .current => 4
  | .timeToEmpty => 5
  | .timeToFull => 6
  | .fullCapacity => 7
  | .coulombCount => 8
  | .packVoltage => 9
  | .packConfig => 10
  | .romId => 11
  | .senseResistor => 12

/-- The register a select code names, `reg(REG_SEL)` (R61); codes 13 to 15 name none (R62). -/
def registerOf (sel : BitVec 4) : Option Register :=
  match sel.toNat with
  | 0 => some .status
  | 1 => some .reportedCapacity
  | 2 => some .reportedStateOfCharge
  | 3 => some .voltage
  | 4 => some .current
  | 5 => some .timeToEmpty
  | 6 => some .timeToFull
  | 7 => some .fullCapacity
  | 8 => some .coulombCount
  | 9 => some .packVoltage
  | 10 => some .packConfig
  | 11 => some .romId
  | 12 => some .senseResistor
  | _ => none

/-- `KIND`'s code (R64). -/
def kindCode : Kind → BitVec 3
  | .raw => 0
  | .status => 1
  | .soc => 2
  | .volt => 3
  | .curr => 4

/-- `kindOf` (R82): the decode kind of a register under `VOLT_REG`. -/
def kindOf (v : VoltReg) (r : Register) : Kind :=
  match r with
  | .status => .status
  | .reportedStateOfCharge => .soc
  | .current => .curr
  | .voltage => if v.register = .voltage then .volt else .raw
  | .packVoltage => if v.register = .packVoltage then .volt else .raw
  | .reportedCapacity | .timeToEmpty | .timeToFull | .fullCapacity | .coulombCount
  | .packConfig | .romId | .senseResistor => .raw

/-- `qreg` (R63, R120): the register a query reads. -/
def qreg (v : VoltReg) : Query → Register
  | .status => .status
  | .soc => .reportedStateOfCharge
  | .volt => v.register
  | .curr => .current

/-- `BANK_UPPER` (R24, R80): strictly above 0x100, unsigned, on all 16 bits. -/
def bankUpper (a : RegAddress) : Bool := decide (Config.bankLimit < a.toNat)

/-- `resolveDev` (R80). -/
def resolveDev (a : RegAddress) : DevAddr :=
  if bankUpper a then Config.devUpper else Config.devLower

/-- `resolveOff` (R81): `a[7:0]`. -/
def resolveOff (a : RegAddress) : RegOffset := a.extractLsb' 0 8

/-- `assemble` (R100): `{RX1, RX0}`, the first byte received the least significant (R43). -/
def assemble (rx0 rx1 : Byte) : RawWord := rx1 ++ rx0

/-- `sint` (R10): the integer a word denotes in two's complement. -/
def sint (w : RawWord) : Int := w.toInt

/-- `sint17` (R66): the integer a 17-bit numerator denotes in two's complement. -/
def sint17 (v : BitVec 17) : Int := v.toInt

/-- `VAL_NUM` by kind (R66, R105). -/
def valNum (k : Kind) (w : RawWord) : BitVec 17 :=
  match k with
  | .soc | .volt => w.zeroExtend 17
  | .curr => w.signExtend 17
  | .raw | .status => 0

/-- `VAL_DEN` by kind (R66, R105). -/
def valDen : Kind → BitVec 13
  | .soc => Config.socDen
  | .volt => Config.voltDen
  | .curr => Config.currDen
  | .raw | .status => 0

/-- `VAL_VALID` by kind (R105). -/
def valValid : Kind → Bool
  | .soc | .volt | .curr => true
  | .raw | .status => false

/-- `FLAGS_VALID` by kind (R105). -/
def flagsValid : Kind → Bool
  | .status => true
  | .raw | .soc | .volt | .curr => false

/-- `VAL = sint17(VAL_NUM) / uint(VAL_DEN)`, exact (R66). It has a meaning only under `VAL_VALID` (92_eei_decisions.md D22). -/
def DecodeOut.val (o : DecodeOut) : Option Rat :=
  if o.valValid then some (mkRat (sint17 o.valNum) o.valDen.toNat) else none

/-- `decodeSoc` (R101): `uint(WORD) / 256` percent. -/
def decodeSoc (w : RawWord) : Measurement := ⟨mkRat w.toNat 256, .percent⟩

/-- `decodeVolt` (R102): `uint(WORD) / 800` volt. -/
def decodeVolt (w : RawWord) : Measurement := ⟨mkRat w.toNat 800, .volt⟩

/-- `decodeCurr` (R103): `sint(WORD) / 6400` ampere. -/
def decodeCurr (w : RawWord) : Measurement := ⟨mkRat (sint w) 6400, .ampere⟩

/-- The host's floating-point form of a result's measurement, `FLOAT_CONV(VAL)` (R75, R109), outside the block. -/
def QueryResult.hostFloat : QueryResult → Option (BitVec Config.floatWidth)
  | .ok (.measurement m) => some (Config.floatConv m.value)
  | .ok (.statusFlags _) | .ok (.raw _) | .err _ => none

end Sys2Proof.Machine
end

