-- ==== Sys2Proof/Machine/Flags.lean ====
section
/-! DEFINITION. The bit-field decoder `decodeStatus` (spec/41_decoder.md rule R104): the flag record and its packed form. -/

namespace Sys2Proof.Machine

/-- `FLAGS = {W[15:6], W[3:1]}` (R65). -/
def packFlags (w : RawWord) : BitVec 13 := w.extractLsb' 6 10 ++ w.extractLsb' 1 3

/-- `StatusFlags` (R31, R104): each flag is its own bit; bits 0, 4 and 5 are read by none (R32). -/
def decodeStatus (w : RawWord) : StatusFlags where
  batteryRemoval := w.getLsbD 15
  maxSocAlert := w.getLsbD 14
  maxTempAlert := w.getLsbD 13
  maxVoltageAlert := w.getLsbD 12
  batteryInsertion := w.getLsbD 11
  minSocAlert := w.getLsbD 10
  minTempAlert := w.getLsbD 9
  minVoltageAlert := w.getLsbD 8
  socChange1PctAlert := w.getLsbD 7
  maxCurrentAlert := w.getLsbD 6
  batteryStatus := w.getLsbD 3
  minCurrentAlert := w.getLsbD 2
  powerOnReset := w.getLsbD 1

/-- `decodeBy` (R120): the typed value of a word under a kind; a RAW word keeps no meaning but its bits (R106). -/
def decodeBy (k : Kind) (w : RawWord) : DecodedValue :=
  match k with
  | .status => .statusFlags (decodeStatus w)
  | .soc => .measurement (decodeSoc w)
  | .volt => .measurement (decodeVolt w)
  | .curr => .measurement (decodeCurr w)
  | .raw => .raw w

end Sys2Proof.Machine
end

