-- ==== Sys2Proof/Machine/Ops.lean ====
section
/-! DEFINITION. The shared operations: the decode block as a function of its inputs (spec/30_encoding.md rule R60), the
bus primitive and the error path (00_scope.md R12, R13; 60_exceptions.md R140, R145), and the three kinds of operation
(R73) that every instruction's meaning is an instance of. -/

namespace Sys2Proof.Machine

/-- `RESOLVE` by select code (R82); a reserved code drives zeros (R62). -/
def resolve (m : RegMap) (v : VoltReg) (sel : BitVec 4) : ResolveOut :=
  match registerOf sel with
  | some r =>
    { selValid := true
      devAddr := resolveDev (m.addr r)
      bankUpper := bankUpper (m.addr r)
      regOff := resolveOff (m.addr r)
      kind := kindCode (kindOf v r) }
  | none =>
    { selValid := false, devAddr := 0, bankUpper := false, regOff := 0, kind := kindCode .raw }

/-- The decode kind of a select code (R64): a reserved code's is RAW (R62). -/
def kindOfSel (v : VoltReg) (sel : BitVec 4) : Kind :=
  match registerOf sel with
  | some r => kindOf v r
  | none => .raw

/-- The kind multiplexer (R105): `WORD` and `FLAGS` whatever the kind, the qualified outputs by kind. -/
def decodeMux (k : Kind) (w : RawWord) : DecodeOut where
  word := w
  flags := packFlags w
  flagsValid := flagsValid k
  valValid := valValid k
  valNum := valNum k w
  valDen := valDen k

/-- The decode block (R60, R162): every output as a function of the present inputs and the constants. -/
def decodeBlock (m : RegMap) (v : VoltReg) (sel : BitVec 4) (rx0 rx1 : Byte) : BlockOut where
  resolve := resolve m v sel
  decode := decodeMux (kindOfSel v sel) (assemble rx0 rx1)

/-- The outputs the block drives in a state (R162). -/
def State.outputs (s : State) : BlockOut := decodeBlock s.regMap s.voltReg s.regSel s.rx0 s.rx1

/-- `WORD` in a state (R100). -/
def State.word (s : State) : RawWord := assemble s.rx0 s.rx1

/-- Drive `REG_SEL`. -/
def State.driveSel (s : State) (sel : BitVec 4) : State := { s with regSel := sel }

/-- Drive `RX0` and `RX1`. -/
def State.driveRx (s : State) (b0 b1 : Byte) : State := { s with rx0 := b0, rx1 := b1 }

/-- Hand the caller what it gets. -/
def State.observe (s : State) (o : Observation) : State := { s with results := s.results ++ [o] }

/-- Note one transaction on the bus. -/
def State.logRequest (s : State) (r : BusRequest) : State := { s with busLog := s.busLog ++ [r] }

/-- The bus's next answer, an oracle draw (R17): the script's, or a free value where the script holds none (log 4). -/
def State.drawAnswer (s : State) : BusAnswer × State :=
  match s.answers with
  | a :: rest => (a, { s with answers := rest })
  | [] => (Config.freeAnswer s.draws, { s with draws := s.draws + 1 })

/-- `BusTransact(dev, tx, n)` (R12): one combined transaction on the bus, and its answer. -/
def State.busTransact (s : State) (dev : DevAddr) (tx : List Byte) (n : Nat) : BusAnswer × State :=
  (s.logRequest ⟨dev, tx, n⟩).drawAnswer

/-- The bytes on `RX0` and `RX1` after a failed transaction, which delivered none: free values (log 5). -/
def State.freeRx (s : State) : State :=
  { s with rx0 := Config.freeByte s.draws, rx1 := Config.freeByte (s.draws + 1), draws := s.draws + 2 }

/-- `raise TransportError(e)` (R13, R140, R145): the query ends and its caller gets the bus's own error. There is no
vector, no saved state and no mode, and nothing to return from (R146). -/
def State.raiseTransportError (s : State) (q : Query) (e : BusErr) : State :=
  s.freeRx.observe (.query q (.err e))

/-- The end of a query on the bus's answer (R120): the decoded value of the two bytes by kind, or the error. -/
def State.finishQuery (s : State) (q : Query) (k : Kind) : BusAnswer → State
  | .ok b0 b1 => (s.driveRx b0 b1).observe (.query q (.ok (decodeBy k (assemble b0 b1))))
  | .err e => s.raiseTransportError q e

/-- The request of a query (R67, R120, R128): the resolved device, the offset byte, two bytes to read. -/
def requestFor (m : RegMap) (v : VoltReg) (q : Query) : BusRequest where
  dev := resolveDev (m.addr (qreg v q))
  tx := [resolveOff (m.addr (qreg v q))]
  n := Config.responseLength

/-- `Query(q)` (R120): one atomic step that resolves, makes one transaction and decodes. -/
def queryOp (q : Query) (s : State) : Host.Outcome State Fault Refusal :=
  let req := requestFor s.regMap s.voltReg q
  let drawn := (s.driveSel (selectOf (qreg s.voltReg q))).busTransact req.dev req.tx req.n
  .next (drawn.2.finishQuery q (kindOf s.voltReg (qreg s.voltReg q)) drawn.1)

/-- A REG operation (R73): RESOLVE drives `REG_SEL` and observes the resolver; DECODE drives the two bytes as well and
observes every output. -/
def resolveOp (r : Register) (rx : Option RxPair) (s : State) : Host.Outcome State Fault Refusal :=
  match rx with
  | none =>
    let driven := s.driveSel (selectOf r)
    .next (driven.observe (.resolved (selectOf r) driven.outputs.resolve))
  | some p =>
    let driven := (s.driveSel (selectOf r)).driveRx p.b0 p.b1
    .next (driven.observe (.decoded (selectOf r) driven.outputs))

/-- A KIND operation (R70, R105): the datapath of one kind on the word of the present `RX0`, `RX1`.
DEDUCED (log 10): the table lists the kinds as selectable codes, and R64 speaks of reading `KIND` from outside. -/
def kindOp (k : Kind) (s : State) : Host.Outcome State Fault Refusal :=
  .next (s.observe (.datapath (kindCode k) (decodeMux k s.word)))

/-- A reserved REG code (R62, R71, R142): a model refuses it. -/
def refuseRegSel (code : BitVec 4) (_ : State) : Host.Outcome State Fault Refusal :=
  .refused (.reservedRegSel code)

/-- A reserved KIND code (R64, R71): a model refuses it. -/
def refuseKind (code : BitVec 3) (_ : State) : Host.Outcome State Fault Refusal :=
  .refused (.reservedKind code)

/-- Take the caller's next command (R16, R52): the oldest one pending. -/
def State.fetch (s : State) : Option (Command × State) :=
  match s.pending with
  | [] => none
  | c :: rest => some (c, { s with pending := rest })

/-- Place a table word's command as the next one pending. -/
def State.pushWord (s : State) (nbits w : Nat) : State :=
  { s with pending := commandOfWord nbits w :: s.pending }

end Sys2Proof.Machine
end

