-- ==== Sys2Proof/Machine/KindSelect.lean ====
section
/-! DEFINITION. The meanings of format KIND: one per decode kind (spec/41_decoder.md rules R101 to R106), the reserved
codes refused (spec/30_encoding.md rule R64). -/

namespace Sys2Proof.Machine

/-- KIND RAW: its datapath on the present word (R106, R105). -/
def execKindRaw (s : State) : Host.Outcome State Fault Refusal := kindOp .raw s

/-- KIND STATUS: its datapath on the present word (R104, R105). -/
def execKindStatus (s : State) : Host.Outcome State Fault Refusal := kindOp .status s

/-- KIND SOC: its datapath on the present word (R101, R105). -/
def execKindSoc (s : State) : Host.Outcome State Fault Refusal := kindOp .soc s

/-- KIND VOLT: its datapath on the present word (R102, R105). -/
def execKindVolt (s : State) : Host.Outcome State Fault Refusal := kindOp .volt s

/-- KIND CURR: its datapath on the present word (R103, R105). -/
def execKindCurr (s : State) : Host.Outcome State Fault Refusal := kindOp .curr s

/-- KIND code 5, reserved (R64). -/
def execReservedKind5 (s : State) : Host.Outcome State Fault Refusal := refuseKind 5 s

/-- KIND code 6, reserved (R64). -/
def execReservedKind6 (s : State) : Host.Outcome State Fault Refusal := refuseKind 6 s

/-- KIND code 7, reserved (R64). -/
def execReservedKind7 (s : State) : Host.Outcome State Fault Refusal := refuseKind 7 s

end Sys2Proof.Machine
end

