-- ==== Sys2Proof/Machine/Query.lean ====
section
/-! DEFINITION. The meanings of format QRY: the four queries (spec/42_queries.md rules R121 to R124). -/

namespace Sys2Proof.Machine

/-- `QUERY STATUS`, the source's `status()` (R121). -/
def execQueryStatus (s : State) : Host.Outcome State Fault Refusal := queryOp .status s

/-- `QUERY SOC`, the source's `stateOfCharge()` (R122). -/
def execQuerySoc (s : State) : Host.Outcome State Fault Refusal := queryOp .soc s

/-- `QUERY VOLT`, the source's `voltage()` (R123). -/
def execQueryVolt (s : State) : Host.Outcome State Fault Refusal := queryOp .volt s

/-- `QUERY CURR`, the source's `current()` (R124). -/
def execQueryCurr (s : State) : Host.Outcome State Fault Refusal := queryOp .curr s

end Sys2Proof.Machine
end

