-- ==== Sys2Proof/Machine/Resolve.lean ====
section
/-! DEFINITION. The meanings of format REG: one per select code (spec/40_resolver.md rules R84 to R96, reserved codes
spec/30_encoding.md rule R62). -/

namespace Sys2Proof.Machine

/-- `RESOLVE Status` and `DECODE Status, b0, b1` (R84; R73). -/
def execResolveStatus (rx : Option RxPair) (s : State) : Host.Outcome State Fault Refusal :=
  resolveOp .status rx s

/-- `RESOLVE ReportedCapacity` and `DECODE ReportedCapacity, b0, b1` (R85; R73). -/
def execResolveReportedCapacity (rx : Option RxPair) (s : State) : Host.Outcome State Fault Refusal :=
  resolveOp .reportedCapacity rx s

/-- `RESOLVE ReportedStateOfCharge` and `DECODE ReportedStateOfCharge, b0, b1` (R86; R73). -/
def execResolveReportedStateOfCharge (rx : Option RxPair) (s : State) : Host.Outcome State Fault Refusal :=
  resolveOp .reportedStateOfCharge rx s

/-- `RESOLVE Voltage` and `DECODE Voltage, b0, b1` (R87; R73). -/
def execResolveVoltage (rx : Option RxPair) (s : State) : Host.Outcome State Fault Refusal :=
  resolveOp .voltage rx s

/-- `RESOLVE Current` and `DECODE Current, b0, b1` (R88; R73). -/
def execResolveCurrent (rx : Option RxPair) (s : State) : Host.Outcome State Fault Refusal :=
  resolveOp .current rx s

/-- `RESOLVE TimeToEmpty` and `DECODE TimeToEmpty, b0, b1` (R89; R73). -/
def execResolveTimeToEmpty (rx : Option RxPair) (s : State) : Host.Outcome State Fault Refusal :=
  resolveOp .timeToEmpty rx s

/-- `RESOLVE TimeToFull` and `DECODE TimeToFull, b0, b1` (R90; R73). -/
def execResolveTimeToFull (rx : Option RxPair) (s : State) : Host.Outcome State Fault Refusal :=
  resolveOp .timeToFull rx s

/-- `RESOLVE FullCapacity` and `DECODE FullCapacity, b0, b1` (R91; R73). -/
def execResolveFullCapacity (rx : Option RxPair) (s : State) : Host.Outcome State Fault Refusal :=
  resolveOp .fullCapacity rx s

/-- `RESOLVE CoulombCount` and `DECODE CoulombCount, b0, b1` (R92; R73). -/
def execResolveCoulombCount (rx : Option RxPair) (s : State) : Host.Outcome State Fault Refusal :=
  resolveOp .coulombCount rx s

/-- `RESOLVE PackVoltage` and `DECODE PackVoltage, b0, b1` (R93; R73). -/
def execResolvePackVoltage (rx : Option RxPair) (s : State) : Host.Outcome State Fault Refusal :=
  resolveOp .packVoltage rx s

/-- `RESOLVE PackConfig` and `DECODE PackConfig, b0, b1` (R94; R73). -/
def execResolvePackConfig (rx : Option RxPair) (s : State) : Host.Outcome State Fault Refusal :=
  resolveOp .packConfig rx s

/-- `RESOLVE RomId` and `DECODE RomId, b0, b1` (R95; R73). -/
def execResolveRomId (rx : Option RxPair) (s : State) : Host.Outcome State Fault Refusal :=
  resolveOp .romId rx s

/-- `RESOLVE SenseResistor` and `DECODE SenseResistor, b0, b1` (R96; R73). -/
def execResolveSenseResistor (rx : Option RxPair) (s : State) : Host.Outcome State Fault Refusal :=
  resolveOp .senseResistor rx s

/-- REG_SEL code 13, reserved (R62). -/
def execReservedReg13 (_ : Option RxPair) (s : State) : Host.Outcome State Fault Refusal :=
  refuseRegSel 13 s

/-- REG_SEL code 14, reserved (R62). -/
def execReservedReg14 (_ : Option RxPair) (s : State) : Host.Outcome State Fault Refusal :=
  refuseRegSel 14 s

/-- REG_SEL code 15, reserved (R62). -/
def execReservedReg15 (_ : Option RxPair) (s : State) : Host.Outcome State Fault Refusal :=
  refuseRegSel 15 s

end Sys2Proof.Machine
end

