-- ==== Sys2Proof/Machine/Dispatch.lean ====
section
/-! DEFINITION. The dispatch: one arm per row of spec/opcode_table.json. -/

namespace Sys2Proof.Machine

def exec (i : Instr) (s : State) : Host.Outcome State Fault Refusal :=
  match i with
  | .resolveStatus rx => Sys2Proof.Machine.execResolveStatus rx s
  | .resolveReportedCapacity rx => Sys2Proof.Machine.execResolveReportedCapacity rx s
  | .resolveReportedStateOfCharge rx => Sys2Proof.Machine.execResolveReportedStateOfCharge rx s
  | .resolveVoltage rx => Sys2Proof.Machine.execResolveVoltage rx s
  | .resolveCurrent rx => Sys2Proof.Machine.execResolveCurrent rx s
  | .resolveTimeToEmpty rx => Sys2Proof.Machine.execResolveTimeToEmpty rx s
  | .resolveTimeToFull rx => Sys2Proof.Machine.execResolveTimeToFull rx s
  | .resolveFullCapacity rx => Sys2Proof.Machine.execResolveFullCapacity rx s
  | .resolveCoulombCount rx => Sys2Proof.Machine.execResolveCoulombCount rx s
  | .resolvePackVoltage rx => Sys2Proof.Machine.execResolvePackVoltage rx s
  | .resolvePackConfig rx => Sys2Proof.Machine.execResolvePackConfig rx s
  | .resolveRomId rx => Sys2Proof.Machine.execResolveRomId rx s
  | .resolveSenseResistor rx => Sys2Proof.Machine.execResolveSenseResistor rx s
  | .reservedReg13 rx => Sys2Proof.Machine.execReservedReg13 rx s
  | .reservedReg14 rx => Sys2Proof.Machine.execReservedReg14 rx s
  | .reservedReg15 rx => Sys2Proof.Machine.execReservedReg15 rx s
  | .queryStatus => Sys2Proof.Machine.execQueryStatus s
  | .querySoc => Sys2Proof.Machine.execQuerySoc s
  | .queryVolt => Sys2Proof.Machine.execQueryVolt s
  | .queryCurr => Sys2Proof.Machine.execQueryCurr s
  | .kindRaw => Sys2Proof.Machine.execKindRaw s
  | .kindStatus => Sys2Proof.Machine.execKindStatus s
  | .kindSoc => Sys2Proof.Machine.execKindSoc s
  | .kindVolt => Sys2Proof.Machine.execKindVolt s
  | .kindCurr => Sys2Proof.Machine.execKindCurr s
  | .reservedKind5 => Sys2Proof.Machine.execReservedKind5 s
  | .reservedKind6 => Sys2Proof.Machine.execReservedKind6 s
  | .reservedKind7 => Sys2Proof.Machine.execReservedKind7 s

end Sys2Proof.Machine
end

