-- ==== Sys2Proof/Machine/Step.lean ====
section
/-! DEFINITION. One step: the caller's next command is taken, decoded and performed, each as one atomic step
(spec/42_queries.md rule R120). The block does nothing on its own (00_scope.md rule R16). -/

namespace Sys2Proof.Machine

/-- Perform what a command decodes to, or refuse the command by name. -/
def runDecoded (d : Except DecodeError Instr) (s : State) : Host.Outcome State Fault Refusal :=
  match d with
  | .ok i => exec i s
  | .error e => .refused (.undecodable e)

/-- One step of the machine. With no command pending nothing happens (R16, log 11). -/
def step (s : State) : Host.Outcome State Fault Refusal :=
  match s.fetch with
  | none => .next s
  | some (c, rest) => runDecoded (decode c) rest

/-- The state with a table word as the caller's next command (log 9). -/
def State.withFetchWord (s : State) (nbits w : Nat) : State := s.pushWord nbits w

end Sys2Proof.Machine
end

