-- ==== Sys2Proof/Safety.lean ====
section
/-! DEFINITION. What claims are stated in: the invariant of a run, renaming of bus errors, and what a queue of queries is
expected to show. -/

namespace Sys2Proof.Machine

/-- Every address of the map is in [0x000, 0x1FF] (R25, R27). Nothing is assumed of it beyond that. -/
def RegMap.WellFormed (m : RegMap) : Prop := ∀ r : Register, (m.addr r).toNat ≤ Config.maxRegAddress

/-- The four registers a query reads (R26, R63). -/
def QueriedRegister (v : VoltReg) (r : Register) : Prop :=
  r = .status ∨ r = .reportedStateOfCharge ∨ r = v.register ∨ r = .current

/-- A request the block may make (R46, R47, R49): one offset byte and two bytes read, at a queried register. -/
def BusRequest.Allowed (m : RegMap) (v : VoltReg) (req : BusRequest) : Prop :=
  ∃ r, QueriedRegister v r ∧ req = ⟨resolveDev (m.addr r), [resolveOff (m.addr r)], 2⟩

/-- Resolver outputs of a named register (R60, R64, R80): valid, device by bank, and no reserved kind. -/
def ResolveOut.Legal (o : ResolveOut) : Prop :=
  o.selValid = true ∧ o.devAddr = (if o.bankUpper then 0x0B else 0x36) ∧ o.kind.toNat ≤ 4

/-- Decoder outputs as the multiplexer drives them (R105): never both valid, a scale of R66 when a value is valid, and
zeros when none is. -/
def DecodeOut.Coherent (o : DecodeOut) : Prop :=
  ¬(o.flagsValid = true ∧ o.valValid = true) ∧
  (o.valValid = true → o.valDen = 256 ∨ o.valDen = 800 ∨ o.valDen = 6400) ∧
  (o.valValid = false → o.valNum = 0 ∧ o.valDen = 0)

/-- A query's value is of the query's type and within R111's range; it is never a RAW word (R75). -/
def DecodedValue.InRange (q : Query) : DecodedValue → Prop
  | .statusFlags _ => q = .status
  | .raw _ => False
  | .measurement m =>
    (q = .soc ∧ m.unit = .percent ∧ 0 ≤ m.value ∧ m.value ≤ mkRat 65535 256) ∨
    (q = .volt ∧ m.unit = .volt ∧ 0 ≤ m.value ∧ m.value ≤ mkRat 65535 800) ∨
    (q = .curr ∧ m.unit = .ampere ∧ mkRat (-32768) 6400 ≤ m.value ∧ m.value ≤ mkRat 32767 6400)

/-- What an observation may be. -/
def Observation.Legal : Observation → Prop
  | .resolved sel o => sel.toNat ≤ 12 ∧ o.Legal
  | .decoded sel o => sel.toNat ≤ 12 ∧ o.resolve.Legal ∧ o.decode.Coherent
  | .datapath k o => k.toNat ≤ 4 ∧ o.Coherent
  | .query q (.ok v) => v.InRange q
  | .query _ (.err _) => True

/-- Whether an observation is a query's result. -/
def Observation.isQuery : Observation → Bool
  | .query _ _ => true
  | .resolved _ _ | .decoded _ _ | .datapath _ _ => false

/-- The invariant of a run: a legal map (R27), a select that names a register on `REG_SEL` (R142), only allowed requests
on the bus (R46, R47, R49), only legal observations (R64, R75, R105, R111), and as many transactions as query results
(R126). -/
structure State.Inv (s : State) : Prop where
  map      : s.regMap.WellFormed
  sel      : s.regSel.toNat ≤ 12
  requests : ∀ r ∈ s.busLog, r.Allowed s.regMap s.voltReg
  results  : ∀ o ∈ s.results, o.Legal
  counts   : s.busLog.length = (s.results.filter Observation.isQuery).length

/-- A bus answer with its error renamed. -/
def BusAnswer.mapErr (f : BusErr → BusErr) : BusAnswer → BusAnswer
  | .ok b0 b1 => .ok b0 b1
  | .err e => .err (f e)

/-- A query result with its error renamed. -/
def QueryResult.mapErr (f : BusErr → BusErr) : QueryResult → QueryResult
  | .ok v => .ok v
  | .err e => .err (f e)

/-- An observation with its error renamed. -/
def Observation.mapErr (f : BusErr → BusErr) : Observation → Observation
  | .query q r => .query q (r.mapErr f)
  | .resolved sel o => .resolved sel o
  | .decoded sel o => .decoded sel o
  | .datapath k o => .datapath k o

/-- A state with every bus error in it renamed. -/
def State.mapErr (f : BusErr → BusErr) (s : State) : State :=
  { s with answers := s.answers.map (BusAnswer.mapErr f), results := s.results.map (Observation.mapErr f) }

/-- An outcome with every bus error in its state renamed. -/
def mapErrOutcome (f : BusErr → BusErr) : Host.Outcome State Fault Refusal → Host.Outcome State Fault Refusal
  | .next s => .next (s.mapErr f)
  | .fault r => .fault r
  | .refused r => .refused r

/-- The result the rules give a query on a bus answer (R121 to R125), for any table. -/
def expectedResult : Query → BusAnswer → QueryResult
  | .status, .ok b0 b1 => .ok (.statusFlags (decodeStatus (assemble b0 b1)))
  | .soc, .ok b0 b1 => .ok (.measurement ⟨mkRat (assemble b0 b1).toNat 256, .percent⟩)
  | .volt, .ok b0 b1 => .ok (.measurement ⟨mkRat (assemble b0 b1).toNat 800, .volt⟩)
  | .curr, .ok b0 b1 => .ok (.measurement ⟨mkRat (assemble b0 b1).toInt 6400, .ampere⟩)
  | _, .err e => .err e

/-- The kind code R64 gives each register, under `VOLT_REG`. -/
def expectedKind (v : VoltReg) : Register → BitVec 3
  | .status => 1
  | .reportedStateOfCharge => 2
  | .voltage => match v with | .voltage => 3 | .packVoltage => 0
  | .packVoltage => match v with | .voltage => 0 | .packVoltage => 3
  | .current => 4
  | .reportedCapacity | .timeToEmpty | .timeToFull | .fullCapacity | .coulombCount
  | .packConfig | .romId | .senseResistor => 0

/-- The resolver outputs R82 gives an address and a kind. -/
def expectedResolve (a : RegAddress) (kind : BitVec 3) : ResolveOut where
  selValid := true
  devAddr := if 0x100 < a.toNat then 0x0B else 0x36
  bankUpper := decide (0x100 < a.toNat)
  regOff := a.extractLsb' 0 8
  kind := kind

/-- The word R100 gives two bytes: `(zext_16(RX1) << 8) | zext_16(RX0)`. -/
def expectedWord (b0 b1 : Byte) : RawWord := (b1.setWidth 16 <<< 8) ||| b0.setWidth 16

/-- The decoder outputs R65, R100 and R105 give a kind code and two bytes. -/
def expectedDecode (kind : BitVec 3) (b0 b1 : Byte) : DecodeOut where
  word := expectedWord b0 b1
  flags := (expectedWord b0 b1).extractLsb' 6 10 ++ (expectedWord b0 b1).extractLsb' 1 3
  flagsValid := decide (kind = 1)
  valValid := decide (kind = 2 ∨ kind = 3 ∨ kind = 4)
  valNum :=
    if kind = 2 ∨ kind = 3 then (expectedWord b0 b1).zeroExtend 17
    else if kind = 4 then (expectedWord b0 b1).signExtend 17 else 0
  valDen := if kind = 2 then 256 else if kind = 3 then 800 else if kind = 4 then 6400 else 0

/-- The request R67 gives an address: `(resolveDev(a), [resolveOff(a)], 2)`. -/
def expectedRequest (a : RegAddress) : BusRequest where
  dev := if 0x100 < a.toNat then 0x0B else 0x36
  tx := [a.extractLsb' 0 8]
  n := 2

/-- The address a query reads (R63). -/
def expectedAddress (m : RegMap) (v : VoltReg) : Query → RegAddress
  | .status => m.status
  | .soc => m.reportedStateOfCharge
  | .volt => match v with | .voltage => m.voltage | .packVoltage => m.packVoltage
  | .curr => m.current

/-- The select a query drives (R63). -/
def expectedSelect (v : VoltReg) : Query → BitVec 4
  | .status => 0
  | .soc => 2
  | .volt => match v with | .voltage => 3 | .packVoltage => 9
  | .curr => 4

/-- The shape of rules R84 to R96: the RESOLVE form of a row drives its code, hands the caller the resolver's outputs at
the row's address and kind, and changes nothing else (that `RX0` and `RX1` stay as they are is log 16). -/
def ResolvesAs (i : Option RxPair → Instr) (code : BitVec 4) (addr : RegMap → RegAddress)
    (kind : VoltReg → BitVec 3) : Prop :=
  ∀ s : State, exec (i none) s = .next { s with
    regSel := code
    results := s.results ++ [.resolved code (expectedResolve (addr s.regMap) (kind s.voltReg))] }

/-- The DECODE form of a row (R73): it drives its code and the two bytes, hands the caller every output, and changes
nothing else. -/
def DecodesAs (i : Option RxPair → Instr) (code : BitVec 4) (addr : RegMap → RegAddress)
    (kind : VoltReg → BitVec 3) : Prop :=
  ∀ (s : State) (b0 b1 : Byte), exec (i (some ⟨b0, b1⟩)) s = .next { s with
    regSel := code
    rx0 := b0
    rx1 := b1
    results := s.results ++ [.decoded code
      ⟨expectedResolve (addr s.regMap) (kind s.voltReg), expectedDecode (kind s.voltReg) b0 b1⟩] }

/-- The shape of rules R121 to R124. On an answer of two bytes a query drives its register's select and the two bytes,
makes its one transaction and hands the caller the decoded word. On an error it hands the caller that error. Nothing else
changes, but that the spec does not say what a failed transaction leaves on `RX0` and `RX1` (log 5): there the next
state's own bytes and draw counter stand. That the inputs hold what the query drove on them is log 16. -/
def QueryReads (i : Instr) (q : Query) (value : RawWord → DecodedValue) : Prop :=
  (∀ (s : State) (b0 b1 : Byte) (rest : List BusAnswer),
    exec i { s with answers := .ok b0 b1 :: rest } = .next { s with
      regSel := expectedSelect s.voltReg q
      rx0 := b0
      rx1 := b1
      answers := rest
      busLog := s.busLog ++ [expectedRequest (expectedAddress s.regMap s.voltReg q)]
      results := s.results ++ [.query q (.ok (value (expectedWord b0 b1)))] }) ∧
  (∀ (s : State) (e : BusErr) (rest : List BusAnswer),
    ∃ t : State, exec i { s with answers := .err e :: rest } = .next t ∧ t = { s with
      regSel := expectedSelect s.voltReg q
      rx0 := t.rx0
      rx1 := t.rx1
      draws := t.draws
      answers := rest
      busLog := s.busLog ++ [expectedRequest (expectedAddress s.regMap s.voltReg q)]
      results := s.results ++ [.query q (.err e)] })

end Sys2Proof.Machine
end

