-- ==== Sys2Proof/Certificates/Slice0/Obligations.lean ====
section
/-! DEFINITION. The statements for the provers. Each docstring names the rule of spec/ it formalises; a clause that rests on
a choice of the model's names its log entry. -/

open Sys2Proof Sys2Proof.Machine

/-! ## Encoding -/

/-- Decoder and encoder agree in both directions (R61, R63, R64, R73): every instruction's command decodes to it, and a
command that decodes is the command of what it decodes to. That a code travels as one byte is the model's choice (log
8). -/
def Obligations.DecodeEncodeAgree : Prop :=
  (∀ i : Instr, decode (encode i) = .ok i) ∧
  (∀ (c : Command) (i : Instr), decode c = .ok i → encode i = c)

/-- Exactly the codes that fit their port, with the operand bytes R73 gives the form, are operations of the block (R61,
R63, R64, R72). That a code travels as one byte is the model's choice (log 8). -/
def Obligations.DecodableCommands : Prop :=
  ∀ c : Command, (∃ i, decode c = .ok i) ↔
    (c.port = .reg ∧ c.code.toNat < 16 ∧ (c.operands.length = 0 ∨ c.operands.length = 2)) ∨
    (c.port = .qry ∧ c.code.toNat < 4 ∧ c.operands = []) ∨
    (c.port = .kind ∧ c.code.toNat < 8 ∧ c.operands = [])

/-- Codes written out from the tables of R61, R63 and R64, each on its port, decode to their rows; that a code travels
as one byte is the model's choice (log 8). The last three clauses are not the tables': that an opcode-table word of 2
bits is read as QRY, of 3 bits as KIND and of any other width as REG is the model's choice (log 9, DESIGN CHOICE). -/
def Obligations.SpecWordsDecode : Prop :=
  decode ⟨.reg, 0b0000, []⟩ = .ok (.resolveStatus none) ∧
  decode ⟨.reg, 0b1001, []⟩ = .ok (.resolvePackVoltage none) ∧
  decode ⟨.reg, 0b1100, [0x34, 0x12]⟩ = .ok (.resolveSenseResistor (some ⟨0x34, 0x12⟩)) ∧
  decode ⟨.reg, 0b1101, []⟩ = .ok (.reservedReg13 none) ∧
  decode ⟨.qry, 0b01, []⟩ = .ok .querySoc ∧
  decode ⟨.qry, 0b11, []⟩ = .ok .queryCurr ∧
  decode ⟨.kind, 0b100, []⟩ = .ok .kindCurr ∧
  decode ⟨.kind, 0b101, []⟩ = .ok .reservedKind5 ∧
  decodeTableWord 4 0b0100 = some (.resolveCurrent none) ∧
  decodeTableWord 2 0b10 = some .queryVolt ∧
  decodeTableWord 3 0b001 = some .kindStatus

/-- The register select codes of R61: the sixteen rows of its table. -/
def Obligations.RegisterSelectCodes : Prop :=
  registerOf 0b0000 = some .status ∧ registerOf 0b0001 = some .reportedCapacity ∧
  registerOf 0b0010 = some .reportedStateOfCharge ∧ registerOf 0b0011 = some .voltage ∧
  registerOf 0b0100 = some .current ∧ registerOf 0b0101 = some .timeToEmpty ∧
  registerOf 0b0110 = some .timeToFull ∧ registerOf 0b0111 = some .fullCapacity ∧
  registerOf 0b1000 = some .coulombCount ∧ registerOf 0b1001 = some .packVoltage ∧
  registerOf 0b1010 = some .packConfig ∧ registerOf 0b1011 = some .romId ∧
  registerOf 0b1100 = some .senseResistor ∧ registerOf 0b1101 = none ∧
  registerOf 0b1110 = none ∧ registerOf 0b1111 = none

/-- The query select codes of R63: each code's query, the register it reads and the select it drives, under either
`VOLT_REG`; no code is reserved. That a code travels as one byte is the model's choice (log 8). -/
def Obligations.QuerySelectCodes : Prop :=
  decode ⟨.qry, 0b00, []⟩ = .ok (Instr.query .status) ∧ decode ⟨.qry, 0b01, []⟩ = .ok (Instr.query .soc) ∧
  decode ⟨.qry, 0b10, []⟩ = .ok (Instr.query .volt) ∧ decode ⟨.qry, 0b11, []⟩ = .ok (Instr.query .curr) ∧
  (∀ v, qreg v .status = .status ∧ qreg v .soc = .reportedStateOfCharge ∧ qreg v .curr = .current) ∧
  qreg .packVoltage .volt = .packVoltage ∧ qreg .voltage .volt = .voltage ∧
  (∀ v q, selectOf (qreg v q) = expectedSelect v q) ∧
  (∀ code : BitVec 2, ∃ q, decode ⟨.qry, code.setWidth 8, []⟩ = .ok (Instr.query q))

/-! ## Stepping -/

/-- A step runs the decoded instruction (R52, R120): the oldest pending command is taken, and the step is `exec` of what
it decodes to. -/
def Obligations.StepRunsDecodedInstr : Prop :=
  ∀ (s : State) (c : Command) (rest : List Command) (i : Instr),
    decode c = .ok i → step { s with pending := c :: rest } = exec i { s with pending := rest }

/-- With nothing asked nothing happens, and a command that is no operation is refused by name: both are the model's
choices (log 11, read from R16; log 8). -/
def Obligations.StepWithoutAnOperation : Prop :=
  (∀ s : State, step { s with pending := [] } = .next { s with pending := [] }) ∧
  (∀ (s : State) (c : Command) (rest : List Command) (e : DecodeError),
    decode c = .error e → step { s with pending := c :: rest } = .refused (.undecodable e))

/-- When a step completes: it answers a next state exactly when nothing is pending or the oldest pending command decodes
to a well-formed instruction, one whose code is not reserved (R71, R141), and it is refused in every other state, so
that no step ends in anything but a next state or a refusal (R13, R145). That an idle step completes is the model's
choice (log 11), and so is refusing a command that is no operation of the block (log 8). -/
def Obligations.StepCompletesExactlyWhenRunnable : Prop :=
  ∀ s : State,
    ((∃ t, step s = .next t) ↔
      s.pending = [] ∨
      ∃ (c : Command) (rest : List Command) (i : Instr),
        s.pending = c :: rest ∧ decode c = .ok i ∧ i.wellFormed = true) ∧
    ((∃ r, step s = .refused r) ↔
      ∃ (c : Command) (rest : List Command), s.pending = c :: rest ∧
        ∀ i : Instr, decode c = .ok i → i.wellFormed = false)

/-- An instruction completes in every state exactly when it is well formed, that is when its code is not reserved (R71,
R107, R141). -/
def Obligations.ExecCompletesIffWellFormed : Prop :=
  ∀ (i : Instr) (s : State), (∃ t, exec i s = .next t) ↔ i.wellFormed = true

/-- No operation changes the register map or `VOLT_REG` (R161). -/
def Obligations.ConstantsNeverChange : Prop :=
  ∀ s t : State, step s = .next t → t.regMap = s.regMap ∧ t.voltReg = s.voltReg

/-- Only a query uses the bus, and it makes one transaction that writes one byte and reads two (R46, R47, R49). That the
bus's answers stand in a list, taken from the front, is the model's choice (log 4). -/
def Obligations.OnlyQueriesUseTheBus : Prop :=
  ∀ s t : State, step s = .next t →
    (t.busLog = s.busLog ∧ t.answers = s.answers) ∨
    (∃ (c : Command) (rest : List Command) (q : Query), s.pending = c :: rest ∧
      decode c = .ok (Instr.query q) ∧ t.answers = s.answers.tail ∧
      t.busLog = s.busLog ++ [expectedRequest (expectedAddress s.regMap s.voltReg q)])

/-! ## Resolver -/

/-- `resolveDev` and `BANK_UPPER` (R80, R24): the strict boundary at 0x100 on all 16 bits. -/
def Obligations.ResolveDevStrictBoundary : Prop :=
  (∀ a : RegAddress, 0x100 < a.toNat → resolveDev a = 0x0B ∧ bankUpper a = true) ∧
  (∀ a : RegAddress, a.toNat ≤ 0x100 → resolveDev a = 0x36 ∧ bankUpper a = false)

/-- `resolveOff` (R81): the low byte of the address, whatever the bank. -/
def Obligations.ResolveOffIsLowByte : Prop :=
  ∀ a : RegAddress, (resolveOff a).toNat = a.toNat % 256 ∧ (resolveOff a).setWidth 16 = a &&& 0xFF

/-- The boundary table over the whole legal range (R97). -/
def Obligations.ResolverBoundaryTable : Prop :=
  ∀ a : RegAddress, a.toNat ≤ 0x1FF →
    (a.toNat ≤ 0xFF → resolveDev a = 0x36 ∧ bankUpper a = false ∧ (resolveOff a).toNat = a.toNat) ∧
    (a.toNat = 0x100 → resolveDev a = 0x36 ∧ bankUpper a = false ∧ resolveOff a = 0) ∧
    (0x101 ≤ a.toNat → resolveDev a = 0x0B ∧ bankUpper a = true ∧ (resolveOff a).toNat = a.toNat - 0x100 ∧
      1 ≤ (resolveOff a).toNat)

/-- Within the legal range exactly one pair of addresses shares a bus location, 0x000 and 0x100, at offset 0 of the
lower device; the upper device is reached at every offset but 0 (R42). -/
def Obligations.OnlyZeroAndBoundaryCollide : Prop :=
  (∀ a b : RegAddress, a.toNat ≤ 0x1FF → b.toNat ≤ 0x1FF →
    ((resolveDev a = resolveDev b ∧ resolveOff a = resolveOff b) ↔
      a = b ∨ (a = 0x000 ∧ b = 0x100) ∨ (a = 0x100 ∧ b = 0x000))) ∧
  (resolveDev 0x000 = 0x36 ∧ resolveOff 0x000 = 0 ∧ resolveDev 0x100 = 0x36 ∧ resolveOff 0x100 = 0) ∧
  (∀ off : RegOffset, (∃ a : RegAddress, a.toNat ≤ 0x1FF ∧ resolveDev a = 0x0B ∧ resolveOff a = off) ↔ off ≠ 0) ∧
  (∀ off : RegOffset, ∃ a : RegAddress, a.toNat ≤ 0x100 ∧ resolveDev a = 0x36 ∧ resolveOff a = off)

/-- RESOLVE of Status, ReportedStateOfCharge and Current (R84, R86, R88), and the one query that reads each. That the
inputs then hold what was last driven on them is the model's choice (log 16). -/
def Obligations.ResolveMeasuredRegisters : Prop :=
  ResolvesAs .resolveStatus 0 RegMap.status (fun _ => 1) ∧
  ResolvesAs .resolveReportedStateOfCharge 2 RegMap.reportedStateOfCharge (fun _ => 2) ∧
  ResolvesAs .resolveCurrent 4 RegMap.current (fun _ => 4) ∧
  (∀ v q, qreg v q = .status ↔ q = .status) ∧
  (∀ v q, qreg v q = .reportedStateOfCharge ↔ q = .soc) ∧
  (∀ v q, qreg v q = .current ↔ q = .curr)

/-- RESOLVE of Voltage and PackVoltage (R87, R93): the one `VOLT_REG` names has kind VOLT and is read by QUERY VOLT, the
other has kind RAW. That the inputs then hold what was last driven on them is the model's choice (log 16). -/
def Obligations.ResolveVoltageRegisters : Prop :=
  ResolvesAs .resolveVoltage 3 RegMap.voltage (fun v => if v = .voltage then 3 else 0) ∧
  ResolvesAs .resolvePackVoltage 9 RegMap.packVoltage (fun v => if v = .packVoltage then 3 else 0) ∧
  (∀ v q, qreg v q = .voltage ↔ q = .volt ∧ v = .voltage) ∧
  (∀ v q, qreg v q = .packVoltage ↔ q = .volt ∧ v = .packVoltage) ∧
  Config.defaultVoltReg = .packVoltage

/-- RESOLVE of the eight registers with no decode (R85, R89 to R92, R94 to R96): kind RAW, read by no query. That the
inputs then hold what was last driven on them is the model's choice (log 16). -/
def Obligations.ResolveUndecodedRegisters : Prop :=
  ResolvesAs .resolveReportedCapacity 1 RegMap.reportedCapacity (fun _ => 0) ∧
  ResolvesAs .resolveTimeToEmpty 5 RegMap.timeToEmpty (fun _ => 0) ∧
  ResolvesAs .resolveTimeToFull 6 RegMap.timeToFull (fun _ => 0) ∧
  ResolvesAs .resolveFullCapacity 7 RegMap.fullCapacity (fun _ => 0) ∧
  ResolvesAs .resolveCoulombCount 8 RegMap.coulombCount (fun _ => 0) ∧
  ResolvesAs .resolvePackConfig 10 RegMap.packConfig (fun _ => 0) ∧
  ResolvesAs .resolveRomId 11 RegMap.romId (fun _ => 0) ∧
  ResolvesAs .resolveSenseResistor 12 RegMap.senseResistor (fun _ => 0) ∧
  (∀ (v : VoltReg) (q : Query), qreg v q ∉ [.reportedCapacity, .timeToEmpty, .timeToFull, .fullCapacity,
    .coulombCount, .packConfig, .romId, .senseResistor])

/-- The DECODE form of all 13 registers (R73, R82, R105): every output of the block, whatever the two bytes are. That
the inputs then hold what was last driven on them is the model's choice (log 16). -/
def Obligations.DecodeFormObservesEveryOutput : Prop :=
  DecodesAs .resolveStatus 0 RegMap.status (fun v => expectedKind v .status) ∧
  DecodesAs .resolveReportedCapacity 1 RegMap.reportedCapacity (fun v => expectedKind v .reportedCapacity) ∧
  DecodesAs .resolveReportedStateOfCharge 2 RegMap.reportedStateOfCharge
    (fun v => expectedKind v .reportedStateOfCharge) ∧
  DecodesAs .resolveVoltage 3 RegMap.voltage (fun v => expectedKind v .voltage) ∧
  DecodesAs .resolveCurrent 4 RegMap.current (fun v => expectedKind v .current) ∧
  DecodesAs .resolveTimeToEmpty 5 RegMap.timeToEmpty (fun v => expectedKind v .timeToEmpty) ∧
  DecodesAs .resolveTimeToFull 6 RegMap.timeToFull (fun v => expectedKind v .timeToFull) ∧
  DecodesAs .resolveFullCapacity 7 RegMap.fullCapacity (fun v => expectedKind v .fullCapacity) ∧
  DecodesAs .resolveCoulombCount 8 RegMap.coulombCount (fun v => expectedKind v .coulombCount) ∧
  DecodesAs .resolvePackVoltage 9 RegMap.packVoltage (fun v => expectedKind v .packVoltage) ∧
  DecodesAs .resolvePackConfig 10 RegMap.packConfig (fun v => expectedKind v .packConfig) ∧
  DecodesAs .resolveRomId 11 RegMap.romId (fun v => expectedKind v .romId) ∧
  DecodesAs .resolveSenseResistor 12 RegMap.senseResistor (fun v => expectedKind v .senseResistor)

/-- Reserved register selects (R62): the three rows are refused; on the ports such a code drives `SEL_VALID = 0` and the
zeros R62 lists while `WORD` and `FLAGS` follow the two bytes; codes 0 to 12 drive `SEL_VALID = 1`; no query can produce
a reserved code. That a query's select stays on `REG_SEL` after it is the model's choice (log 16). -/
def Obligations.ReservedRegisterSelects : Prop :=
  (∀ (rx : Option RxPair) (s : State),
    exec (.reservedReg13 rx) s = .refused (.reservedRegSel 13) ∧
    exec (.reservedReg14 rx) s = .refused (.reservedRegSel 14) ∧
    exec (.reservedReg15 rx) s = .refused (.reservedRegSel 15)) ∧
  (∀ s : State, 13 ≤ s.regSel.toNat → s.outputs =
    ⟨⟨false, 0, false, 0, 0⟩, ⟨expectedWord s.rx0 s.rx1, (expectedDecode 0 s.rx0 s.rx1).flags, false, false, 0, 0⟩⟩) ∧
  (∀ s : State, s.regSel.toNat ≤ 12 → s.outputs.resolve.selValid = true) ∧
  (∀ (q : Query) (s : State), ∃ t, exec (Instr.query q) s = .next t ∧ t.regSel.toNat ≤ 12)

/-- The decode kinds (R64): each register's code on `KIND`, RAW on a reserved select, never one of 5 to 7; and those
three codes are refused when read from outside. -/
def Obligations.KindCodes : Prop :=
  (∀ (m : RegMap) (v : VoltReg) (r : Register), (resolve m v (selectOf r)).kind = expectedKind v r) ∧
  (∀ (m : RegMap) (v : VoltReg) (sel : BitVec 4), 13 ≤ sel.toNat → (resolve m v sel).kind = 0) ∧
  (∀ (m : RegMap) (v : VoltReg) (sel : BitVec 4), (resolve m v sel).kind.toNat ≤ 4) ∧
  (∀ s : State, exec .reservedKind5 s = .refused (.reservedKind 5) ∧
    exec .reservedKind6 s = .refused (.reservedKind 6) ∧ exec .reservedKind7 s = .refused (.reservedKind 7))

/-! ## Decoder -/

/-- Word assembly is little-endian and keeps all 16 bits (R100, R43), and `WORD` is driven whatever the selects are. -/
def Obligations.AssembleLittleEndian : Prop :=
  (∀ b0 b1 : Byte, assemble b0 b1 = expectedWord b0 b1) ∧
  (∀ b0 b1 : Byte, (assemble b0 b1).toNat = 256 * b1.toNat + b0.toNat) ∧
  (∀ w : RawWord, ∃ b0 b1 : Byte, assemble b0 b1 = w) ∧
  (∀ b0 b1 c0 c1 : Byte, assemble b0 b1 = assemble c0 c1 → b0 = c0 ∧ b1 = c1) ∧
  (∀ (m : RegMap) (v : VoltReg) (sel : BitVec 4) (b0 b1 : Byte),
    (decodeBlock m v sel b0 b1).decode.word = expectedWord b0 b1) ∧
  assemble 0x34 0x12 = 0x1234

/-- The kind multiplexer (R105) on every word. -/
def Obligations.KindMultiplexer : Prop :=
  ∀ w : RawWord,
    decodeMux .soc w = ⟨w, packFlags w, false, true, w.zeroExtend 17, 256⟩ ∧
    decodeMux .volt w = ⟨w, packFlags w, false, true, w.zeroExtend 17, 800⟩ ∧
    decodeMux .curr w = ⟨w, packFlags w, false, true, w.signExtend 17, 6400⟩ ∧
    decodeMux .status w = ⟨w, packFlags w, true, false, 0, 0⟩ ∧
    decodeMux .raw w = ⟨w, packFlags w, false, false, 0, 0⟩

/-- The KIND operations (R70, R105): each hands the caller its datapath on the word of the present `RX0`, `RX1`, and
changes nothing else. That a KIND row is an operation the caller asks for is the model's reading (log 10), and so is
that the ports hold the bytes last driven on them (log 16). -/
def Obligations.KindOperations : Prop :=
  ∀ s : State,
    exec .kindRaw s = .next { s with results := s.results ++ [.datapath 0 (expectedDecode 0 s.rx0 s.rx1)] } ∧
    exec .kindStatus s = .next { s with results := s.results ++ [.datapath 1 (expectedDecode 1 s.rx0 s.rx1)] } ∧
    exec .kindSoc s = .next { s with results := s.results ++ [.datapath 2 (expectedDecode 2 s.rx0 s.rx1)] } ∧
    exec .kindVolt s = .next { s with results := s.results ++ [.datapath 3 (expectedDecode 3 s.rx0 s.rx1)] } ∧
    exec .kindCurr s = .next { s with results := s.results ++ [.datapath 4 (expectedDecode 4 s.rx0 s.rx1)] }

/-- The scaled value (R66): `VAL_NUM` over `VAL_DEN`, read as R66 reads them, is the exact value in the kind's unit;
kinds STATUS and RAW and a reserved select drive zeros. -/
def Obligations.ScaledValueIsExact : Prop :=
  (∀ n : BitVec 17, sint17 n = if n.getLsbD 16 then (n.toNat : Int) - 131072 else n.toNat) ∧
  (∀ w : RawWord,
    (decodeMux .soc w).val = some (mkRat w.toNat 256) ∧
    decodeBy .soc w = .measurement ⟨mkRat w.toNat 256, .percent⟩ ∧
    (decodeMux .volt w).val = some (mkRat w.toNat 800) ∧
    decodeBy .volt w = .measurement ⟨mkRat w.toNat 800, .volt⟩ ∧
    (decodeMux .curr w).val = some (mkRat (sint w) 6400) ∧
    decodeBy .curr w = .measurement ⟨mkRat (sint w) 6400, .ampere⟩) ∧
  (∀ w : RawWord, (decodeMux .soc w).valNum = w.zeroExtend 17 ∧ (decodeMux .volt w).valNum = w.zeroExtend 17 ∧
    (decodeMux .curr w).valNum = w.signExtend 17 ∧ (decodeMux .soc w).valDen = 0x0100 ∧
    (decodeMux .volt w).valDen = 0x0320 ∧ (decodeMux .curr w).valDen = 0x1900) ∧
  (∀ (k : Kind) (w : RawWord), k = .status ∨ k = .raw → (decodeMux k w).valNum = 0 ∧ (decodeMux k w).valDen = 0) ∧
  (∀ (m : RegMap) (v : VoltReg) (sel : BitVec 4) (b0 b1 : Byte), 13 ≤ sel.toNat →
    (decodeBlock m v sel b0 b1).decode.valNum = 0 ∧ (decodeBlock m v sel b0 b1).decode.valDen = 0)

/-- The unsigned scale decoders (R101, R102): the numerator is the word itself and nothing is clamped, so 0xFFFF reads
above 100 % and 0x8000 is positive. -/
def Obligations.UnsignedScaleDecoders : Prop :=
  (∀ v, kindOf v .reportedStateOfCharge = .soc ∧ kindOf v v.register = .volt) ∧ kindCode .soc = 2 ∧ kindCode .volt = 3 ∧
  (∀ w : RawWord, sint17 (decodeMux .soc w).valNum = w.toNat ∧ (decodeMux .soc w).valDen = 256 ∧
    (decodeMux .soc w).valValid = true ∧ decodeSoc w = ⟨mkRat w.toNat 256, .percent⟩) ∧
  (∀ w : RawWord, sint17 (decodeMux .volt w).valNum = w.toNat ∧ (decodeMux .volt w).valDen = 800 ∧
    (decodeMux .volt w).valValid = true ∧ decodeVolt w = ⟨mkRat w.toNat 800, .volt⟩) ∧
  (∀ n : BitVec 8, (decodeSoc (n.setWidth 16 <<< 8)).value = n.toNat) ∧
  (decodeSoc 0xFFFF).value = mkRat 65535 256 ∧ (decodeSoc 0x0001).value = mkRat 1 256 ∧
  (decodeVolt 0x8000).value = mkRat 4096 100 ∧ (decodeVolt 0xFFFF).value = mkRat 8191875 100000

/-- The current decoder (R103): two's complement with bit 15 as the sign, the same integer in 17 bits, and the corner
words. -/
def Obligations.CurrentIsTwosComplement : Prop :=
  (∀ v, kindOf v .current = .curr) ∧ kindCode .curr = 4 ∧
  (∀ w : RawWord, sint w = if w.getLsbD 15 then (w.toNat : Int) - 65536 else w.toNat) ∧
  (∀ w : RawWord, sint17 (decodeMux .curr w).valNum = sint w ∧ (decodeMux .curr w).valDen = 6400 ∧
    (decodeMux .curr w).valValid = true ∧ decodeCurr w = ⟨mkRat (sint w) 6400, .ampere⟩) ∧
  (∀ w : RawWord, -32768 ≤ sint w ∧ sint w ≤ 32767) ∧
  (decodeCurr 0x8000).value = mkRat (-512) 100 ∧ (decodeCurr 0x7FFF).value = mkRat 511984375 100000000 ∧
  (decodeCurr 0xFFFF).value = mkRat (-15625) 100000000 ∧ (decodeCurr 0x0000).value = 0

/-- The output ranges (R111): the least and greatest values, attained, and the step from one word to the next. -/
def Obligations.OutputRanges : Prop :=
  (∀ w : RawWord, 0 ≤ (decodeSoc w).value ∧ (decodeSoc w).value ≤ mkRat 65535 256) ∧
  (∀ w : RawWord, 0 ≤ (decodeVolt w).value ∧ (decodeVolt w).value ≤ mkRat 65535 800) ∧
  (∀ w : RawWord, mkRat (-32768) 6400 ≤ (decodeCurr w).value ∧ (decodeCurr w).value ≤ mkRat 32767 6400) ∧
  (∃ w, (decodeSoc w).value = 0) ∧ (∃ w, (decodeSoc w).value = mkRat 65535 256) ∧
  (∃ w, (decodeVolt w).value = 0) ∧ (∃ w, (decodeVolt w).value = mkRat 65535 800) ∧
  (∃ w, (decodeCurr w).value = mkRat (-32768) 6400) ∧ (∃ w, (decodeCurr w).value = mkRat 32767 6400) ∧
  (∀ w : RawWord, w ≠ 0xFFFF → (decodeSoc (w + 1)).value - (decodeSoc w).value = mkRat 1 256 ∧
    (decodeVolt (w + 1)).value - (decodeVolt w).value = mkRat 1 800) ∧
  (∀ w : RawWord, w ≠ 0x7FFF → (decodeCurr (w + 1)).value - (decodeCurr w).value = mkRat 1 6400) ∧
  packFlags 0x0000 = 0x0000 ∧ packFlags 0xFFFF = 0x1FFF ∧
  (∀ i : Nat, i < 13 → ∃ j : Nat, j < 16 ∧ packFlags (1#16 <<< j) = 1#13 <<< i)

/-- The status decoder (R104): each flag is its own bit of the word, `FLAGS` is driven under every kind, and
`FLAGS_VALID` is 1 exactly under kind STATUS. -/
def Obligations.StatusFlagBits : Prop :=
  (∀ v, kindOf v .status = .status) ∧ kindCode .status = 1 ∧
  (∀ w : RawWord, decodeStatus w =
    { batteryRemoval := w[15], maxSocAlert := w[14], maxTempAlert := w[13], maxVoltageAlert := w[12],
      batteryInsertion := w[11], minSocAlert := w[10], minTempAlert := w[9], minVoltageAlert := w[8],
      socChange1PctAlert := w[7], maxCurrentAlert := w[6], batteryStatus := w[3], minCurrentAlert := w[2],
      powerOnReset := w[1] }) ∧
  (∀ (k : Kind) (w : RawWord), (decodeMux k w).flags = w.extractLsb' 6 10 ++ w.extractLsb' 1 3) ∧
  (∀ (k : Kind) (w : RawWord), (decodeMux k w).flagsValid = true ↔ k = .status) ∧
  decodeStatus 0x0031 = decodeStatus 0x0000 ∧ packFlags 0x0002 = 0x0001 ∧ packFlags 0xFFFF = 0x1FFF

/-- The lanes of `FLAGS` (R65): lane i is exactly the bit of the word R65 lists for it. -/
def Obligations.FlagLanes : Prop :=
  ∀ (w : RawWord) (i : Nat), i < 13 →
    (packFlags w).getLsbD i = w.getLsbD (if i < 3 then i + 1 else i + 3)

/-- Status bits 0, 4 and 5 change no flag, and every other bit does (R32): two words have the same flags exactly when
they agree outside those three bits. -/
def Obligations.IgnoredStatusBits : Prop :=
  ∀ w w' : RawWord,
    (decodeStatus w = decodeStatus w' ↔ w &&& 0xFFCE = w' &&& 0xFFCE) ∧
    (packFlags w = packFlags w' ↔ w &&& 0xFFCE = w' &&& 0xFFCE)

/-- Every output is a function of the present inputs and the constants only (R108, R162): states that agree on those
have equal outputs, and a DECODE gives both callers the same observation. -/
def Obligations.OutputsDependOnInputsOnly : Prop :=
  (∀ s t : State, s.regMap = t.regMap → s.voltReg = t.voltReg → s.regSel = t.regSel → s.rx0 = t.rx0 → s.rx1 = t.rx1 →
    s.outputs = t.outputs) ∧
  (∀ (s t : State) (r : Register) (p : RxPair), s.regMap = t.regMap → s.voltReg = t.voltReg →
    ∃ o s' t', exec (Instr.resolve r (some p)) s = .next s' ∧ exec (Instr.resolve r (some p)) t = .next t' ∧
      s'.results = s.results ++ [o] ∧ t'.results = t.results ++ [o])

/-! ## Queries

In the next state of a query `REG_SEL`, `RX0` and `RX1` hold what the query drove on them (R63, R120); that they stay driven
is the model's choice (log 16), and so is that the bus's answers stand in a list, taken from the front (log 4). -/

/-- QUERY STATUS (R121). The inputs held after it are log 16, the list of answers log 4. -/
def Obligations.QueryStatusResult : Prop :=
  QueryReads .queryStatus .status (fun w => .statusFlags (decodeStatus w))

/-- QUERY SOC (R122), with its range. The inputs held after it are log 16, the list of answers log 4. -/
def Obligations.QuerySocResult : Prop :=
  QueryReads .querySoc .soc (fun w => .measurement ⟨mkRat w.toNat 256, .percent⟩) ∧
  (∀ w : RawWord, 0 ≤ mkRat w.toNat 256 ∧ mkRat w.toNat 256 ≤ mkRat 65535 256)

/-- QUERY VOLT (R123), under either `VOLT_REG`, with its range. The inputs held after it are log 16, the list of answers
log 4. -/
def Obligations.QueryVoltResult : Prop :=
  QueryReads .queryVolt .volt (fun w => .measurement ⟨mkRat w.toNat 800, .volt⟩) ∧
  (∀ w : RawWord, 0 ≤ mkRat w.toNat 800 ∧ mkRat w.toNat 800 ≤ mkRat 65535 800)

/-- QUERY CURR (R124), with its range. The inputs held after it are log 16, the list of answers log 4. -/
def Obligations.QueryCurrResult : Prop :=
  QueryReads .queryCurr .curr (fun w => .measurement ⟨mkRat w.toInt 6400, .ampere⟩) ∧
  (∀ w : RawWord, mkRat (-512) 100 ≤ mkRat w.toInt 6400 ∧ mkRat w.toInt 6400 ≤ mkRat 32767 6400)

/-- A transport error goes to the caller of its query unchanged, with no value, no retry and no further transaction
(R125). What stands on `RX0` and `RX1` afterwards is not said (log 5); the list of answers is log 4. -/
def Obligations.TransportErrorPropagates : Prop :=
  ∀ (q : Query) (s : State) (e : BusErr) (rest : List BusAnswer), ∃ t : State,
    exec (Instr.query q) { s with answers := .err e :: rest } = .next t ∧
    t.results = s.results ++ [.query q (.err e)] ∧
    t.busLog = s.busLog ++ [expectedRequest (expectedAddress s.regMap s.voltReg q)] ∧
    t.answers = rest ∧ t.pending = s.pending ∧ t.regMap = s.regMap ∧ t.voltReg = s.voltReg

/-- One transaction per query, in every state and whatever the bus answers, and one result (R126): the transaction
writes the one offset byte and reads two bytes. The constants and the pending commands stay. The list of answers, and
the free answer where it is empty, are log 4. -/
def Obligations.OneTransactionPerQuery : Prop :=
  ∀ (q : Query) (s : State), ∃ (t : State) (r : QueryResult),
    exec (Instr.query q) s = .next t ∧
    t.busLog = s.busLog ++ [expectedRequest (expectedAddress s.regMap s.voltReg q)] ∧
    t.results = s.results ++ [.query q r] ∧ t.answers = s.answers.tail ∧
    t.pending = s.pending ∧ t.regMap = s.regMap ∧ t.voltReg = s.voltReg

/-- A query's result depends on nothing but the query and the answer of its own transaction (R130): from any two states,
whatever was asked, answered or seen before, the same answer gives the same result. -/
def Obligations.QueryResultsAreIndependent : Prop :=
  ∀ (q : Query) (a : BusAnswer) (s s' : State) (rest rest' : List BusAnswer), ∃ (t t' : State) (r : QueryResult),
    exec (Instr.query q) { s with answers := a :: rest } = .next t ∧
    exec (Instr.query q) { s' with answers := a :: rest' } = .next t' ∧
    t.results = s.results ++ [.query q r] ∧ t'.results = s'.results ++ [.query q r]

/-- The block cannot tell bus errors apart (R8, R140): renaming every error of a state by any function and then stepping
is stepping and then renaming. So nothing rests on how the model writes an error (log 3). -/
def Obligations.BusErrorsAreNotInspected : Prop :=
  ∀ (f : BusErr → BusErr) (s : State) (a : BusAnswer) (rest : List BusAnswer),
    step (State.mapErr f { s with answers := a :: rest }) =
      mapErrOutcome f (step { s with answers := a :: rest })

/-- A select changed before the outputs are read applies the wrong kind (R167): when RESOLVE of a register r follows a
query, the block's decoder outputs are those of r's kind on the query's word; they are the query's own kind's when r is
the query's register. The spec does not say how long an input is held: that `REG_SEL`, `RX0` and `RX1` hold what was
last driven on them, and that RESOLVE leaves the two bytes, is the model's choice (log 16, DEDUCED). -/
def Obligations.StaleSelectMisdecodes : Prop :=
  ∀ (q : Query) (r : Register) (s : State) (b0 b1 : Byte) (rest : List BusAnswer), ∃ t u : State,
    exec (Instr.query q) { s with answers := .ok b0 b1 :: rest } = .next t ∧
    t.outputs.decode = expectedDecode (expectedKind s.voltReg (qreg s.voltReg q)) b0 b1 ∧
    exec (Instr.resolve r none) t = .next u ∧
    u.outputs.decode = expectedDecode (expectedKind s.voltReg r) b0 b1

/-- Queries run one at a time in the caller's order (R52, R120, R126): for any queue of queries and answers, with
further commands and answers behind them, as many steps as there are queries make exactly their transactions, in order,
and give exactly the results the rules give on their answers, in order. That commands and answers stand in lists is the
model's choice (logs 4, 6 and 8). -/
def Obligations.QueuedQueriesRunInOrder : Prop :=
  ∀ (qas : List (Query × BusAnswer)) (more : List Command) (rest : List BusAnswer) (s : State), ∃ t : State,
    Host.Core.run Sys2Proof.core qas.length
      ({ s with
        pending := qas.map (fun x => encode (Instr.query x.1)) ++ more
        answers := qas.map (fun x => x.2) ++ rest } : State) = .next t ∧
    t.pending = more ∧ t.answers = rest ∧ t.regMap = s.regMap ∧ t.voltReg = s.voltReg ∧
    t.busLog = s.busLog ++ qas.map (fun x => expectedRequest (expectedAddress s.regMap s.voltReg x.1)) ∧
    t.results = s.results ++ qas.map (fun x => .query x.1 (expectedResult x.1 x.2))

/-! ## Reset and the invariant -/

/-- After power-up every address of the map is in its range (R27), and every output is already what R82, R100 and R105
give the present inputs (R160): on each register's select and any two bytes, the resolver's outputs at that register's
address and the decoder's outputs by its kind. Two clauses are the model's choices: that `VOLT_REG` is PackVoltage after
reset (log 15, DESIGN CHOICE, taking the default of R8), and that nothing has been transacted or handed over yet (log
6). The input ports' own values after reset (log 2) are not said. -/
def Obligations.ResetState : Prop :=
  State.reset.regMap.WellFormed ∧ State.reset.voltReg = .packVoltage ∧
  (∀ (r : Register) (b0 b1 : Byte),
    State.outputs { State.reset with regSel := selectOf r, rx0 := b0, rx1 := b1 } =
      ⟨expectedResolve (State.reset.regMap.addr r) (expectedKind State.reset.voltReg r),
        expectedDecode (expectedKind State.reset.voltReg r) b0 b1⟩) ∧
  State.reset.busLog = [] ∧ State.reset.results = []

/-- The machine after reset meets the invariant. That `REG_SEL` holds a register's code there is the model's choice (log
2). -/
def Obligations.ResetMeetsInvariant : Prop := State.reset.Inv

/-- Every step keeps the invariant (R27, R46, R47, R49, R75, R105, R111, R126, R142): the map legal, a register's code
on `REG_SEL`, only one-byte writes and two-byte reads at the queried registers, only observations the rules allow, and
as many transactions as query results. That `REG_SEL` holds what was last driven on it is the model's choice (log 16).
-/
def Obligations.StepKeepsInvariant : Prop :=
  ∀ s t : State, s.Inv → step s = .next t → t.Inv
end

