-- ==== Sys2Proof/Laws/State.lean ====
section
/-! SUPPORT. One lemma per field per update of the state, so that no later proof unfolds a record update. -/

namespace Sys2Proof.Machine

@[simp] theorem State.driveSel_regMap (s : State) (sel : BitVec 4) :
    (s.driveSel sel).regMap = s.regMap := rfl
@[simp] theorem State.driveSel_voltReg (s : State) (sel : BitVec 4) :
    (s.driveSel sel).voltReg = s.voltReg := rfl
@[simp] theorem State.driveSel_regSel (s : State) (sel : BitVec 4) :
    (s.driveSel sel).regSel = sel := rfl
@[simp] theorem State.driveSel_rx0 (s : State) (sel : BitVec 4) :
    (s.driveSel sel).rx0 = s.rx0 := rfl
@[simp] theorem State.driveSel_rx1 (s : State) (sel : BitVec 4) :
    (s.driveSel sel).rx1 = s.rx1 := rfl
@[simp] theorem State.driveSel_pending (s : State) (sel : BitVec 4) :
    (s.driveSel sel).pending = s.pending := rfl
@[simp] theorem State.driveSel_answers (s : State) (sel : BitVec 4) :
    (s.driveSel sel).answers = s.answers := rfl
@[simp] theorem State.driveSel_busLog (s : State) (sel : BitVec 4) :
    (s.driveSel sel).busLog = s.busLog := rfl
@[simp] theorem State.driveSel_results (s : State) (sel : BitVec 4) :
    (s.driveSel sel).results = s.results := rfl
@[simp] theorem State.driveSel_draws (s : State) (sel : BitVec 4) :
    (s.driveSel sel).draws = s.draws := rfl

@[simp] theorem State.driveRx_regMap (s : State) (b0 b1 : Byte) :
    (s.driveRx b0 b1).regMap = s.regMap := rfl
@[simp] theorem State.driveRx_voltReg (s : State) (b0 b1 : Byte) :
    (s.driveRx b0 b1).voltReg = s.voltReg := rfl
@[simp] theorem State.driveRx_regSel (s : State) (b0 b1 : Byte) :
    (s.driveRx b0 b1).regSel = s.regSel := rfl
@[simp] theorem State.driveRx_rx0 (s : State) (b0 b1 : Byte) :
    (s.driveRx b0 b1).rx0 = b0 := rfl
@[simp] theorem State.driveRx_rx1 (s : State) (b0 b1 : Byte) :
    (s.driveRx b0 b1).rx1 = b1 := rfl
@[simp] theorem State.driveRx_pending (s : State) (b0 b1 : Byte) :
    (s.driveRx b0 b1).pending = s.pending := rfl
@[simp] theorem State.driveRx_answers (s : State) (b0 b1 : Byte) :
    (s.driveRx b0 b1).answers = s.answers := rfl
@[simp] theorem State.driveRx_busLog (s : State) (b0 b1 : Byte) :
    (s.driveRx b0 b1).busLog = s.busLog := rfl
@[simp] theorem State.driveRx_results (s : State) (b0 b1 : Byte) :
    (s.driveRx b0 b1).results = s.results := rfl
@[simp] theorem State.driveRx_draws (s : State) (b0 b1 : Byte) :
    (s.driveRx b0 b1).draws = s.draws := rfl

@[simp] theorem State.observe_regMap (s : State) (o : Observation) :
    (s.observe o).regMap = s.regMap := rfl
@[simp] theorem State.observe_voltReg (s : State) (o : Observation) :
    (s.observe o).voltReg = s.voltReg := rfl
@[simp] theorem State.observe_regSel (s : State) (o : Observation) :
    (s.observe o).regSel = s.regSel := rfl
@[simp] theorem State.observe_rx0 (s : State) (o : Observation) :
    (s.observe o).rx0 = s.rx0 := rfl
@[simp] theorem State.observe_rx1 (s : State) (o : Observation) :
    (s.observe o).rx1 = s.rx1 := rfl
@[simp] theorem State.observe_pending (s : State) (o : Observation) :
    (s.observe o).pending = s.pending := rfl
@[simp] theorem State.observe_answers (s : State) (o : Observation) :
    (s.observe o).answers = s.answers := rfl
@[simp] theorem State.observe_busLog (s : State) (o : Observation) :
    (s.observe o).busLog = s.busLog := rfl
@[simp] theorem State.observe_results (s : State) (o : Observation) :
    (s.observe o).results = s.results ++ [o] := rfl
@[simp] theorem State.observe_draws (s : State) (o : Observation) :
    (s.observe o).draws = s.draws := rfl

@[simp] theorem State.logRequest_regMap (s : State) (r : BusRequest) :
    (s.logRequest r).regMap = s.regMap := rfl
@[simp] theorem State.logRequest_voltReg (s : State) (r : BusRequest) :
    (s.logRequest r).voltReg = s.voltReg := rfl
@[simp] theorem State.logRequest_regSel (s : State) (r : BusRequest) :
    (s.logRequest r).regSel = s.regSel := rfl
@[simp] theorem State.logRequest_rx0 (s : State) (r : BusRequest) :
    (s.logRequest r).rx0 = s.rx0 := rfl
@[simp] theorem State.logRequest_rx1 (s : State) (r : BusRequest) :
    (s.logRequest r).rx1 = s.rx1 := rfl
@[simp] theorem State.logRequest_pending (s : State) (r : BusRequest) :
    (s.logRequest r).pending = s.pending := rfl
@[simp] theorem State.logRequest_answers (s : State) (r : BusRequest) :
    (s.logRequest r).answers = s.answers := rfl
@[simp] theorem State.logRequest_busLog (s : State) (r : BusRequest) :
    (s.logRequest r).busLog = s.busLog ++ [r] := rfl
@[simp] theorem State.logRequest_results (s : State) (r : BusRequest) :
    (s.logRequest r).results = s.results := rfl
@[simp] theorem State.logRequest_draws (s : State) (r : BusRequest) :
    (s.logRequest r).draws = s.draws := rfl

@[simp] theorem State.freeRx_regMap (s : State) :
    s.freeRx.regMap = s.regMap := rfl
@[simp] theorem State.freeRx_voltReg (s : State) :
    s.freeRx.voltReg = s.voltReg := rfl
@[simp] theorem State.freeRx_regSel (s : State) :
    s.freeRx.regSel = s.regSel := rfl
@[simp] theorem State.freeRx_rx0 (s : State) :
    s.freeRx.rx0 = Config.freeByte s.draws := rfl
@[simp] theorem State.freeRx_rx1 (s : State) :
    s.freeRx.rx1 = Config.freeByte (s.draws + 1) := rfl
@[simp] theorem State.freeRx_pending (s : State) :
    s.freeRx.pending = s.pending := rfl
@[simp] theorem State.freeRx_answers (s : State) :
    s.freeRx.answers = s.answers := rfl
@[simp] theorem State.freeRx_busLog (s : State) :
    s.freeRx.busLog = s.busLog := rfl
@[simp] theorem State.freeRx_results (s : State) :
    s.freeRx.results = s.results := rfl
@[simp] theorem State.freeRx_draws (s : State) :
    s.freeRx.draws = s.draws + 2 := rfl

@[simp] theorem State.raiseTransportError_regMap (s : State) (q : Query) (e : BusErr) :
    (s.raiseTransportError q e).regMap = s.regMap := rfl
@[simp] theorem State.raiseTransportError_voltReg (s : State) (q : Query) (e : BusErr) :
    (s.raiseTransportError q e).voltReg = s.voltReg := rfl
@[simp] theorem State.raiseTransportError_regSel (s : State) (q : Query) (e : BusErr) :
    (s.raiseTransportError q e).regSel = s.regSel := rfl
@[simp] theorem State.raiseTransportError_rx0 (s : State) (q : Query) (e : BusErr) :
    (s.raiseTransportError q e).rx0 = Config.freeByte s.draws := rfl
@[simp] theorem State.raiseTransportError_rx1 (s : State) (q : Query) (e : BusErr) :
    (s.raiseTransportError q e).rx1 = Config.freeByte (s.draws + 1) := rfl
@[simp] theorem State.raiseTransportError_pending (s : State) (q : Query) (e : BusErr) :
    (s.raiseTransportError q e).pending = s.pending := rfl
@[simp] theorem State.raiseTransportError_answers (s : State) (q : Query) (e : BusErr) :
    (s.raiseTransportError q e).answers = s.answers := rfl
@[simp] theorem State.raiseTransportError_busLog (s : State) (q : Query) (e : BusErr) :
    (s.raiseTransportError q e).busLog = s.busLog := rfl
@[simp] theorem State.raiseTransportError_results (s : State) (q : Query) (e : BusErr) :
    (s.raiseTransportError q e).results = s.results ++ [.query q (.err e)] := rfl
@[simp] theorem State.raiseTransportError_draws (s : State) (q : Query) (e : BusErr) :
    (s.raiseTransportError q e).draws = s.draws + 2 := rfl

@[simp] theorem State.pushWord_regMap (s : State) (nbits w : Nat) :
    (s.pushWord nbits w).regMap = s.regMap := rfl
@[simp] theorem State.pushWord_voltReg (s : State) (nbits w : Nat) :
    (s.pushWord nbits w).voltReg = s.voltReg := rfl
@[simp] theorem State.pushWord_regSel (s : State) (nbits w : Nat) :
    (s.pushWord nbits w).regSel = s.regSel := rfl
@[simp] theorem State.pushWord_rx0 (s : State) (nbits w : Nat) :
    (s.pushWord nbits w).rx0 = s.rx0 := rfl
@[simp] theorem State.pushWord_rx1 (s : State) (nbits w : Nat) :
    (s.pushWord nbits w).rx1 = s.rx1 := rfl
@[simp] theorem State.pushWord_pending (s : State) (nbits w : Nat) :
    (s.pushWord nbits w).pending = commandOfWord nbits w :: s.pending := rfl
@[simp] theorem State.pushWord_answers (s : State) (nbits w : Nat) :
    (s.pushWord nbits w).answers = s.answers := rfl
@[simp] theorem State.pushWord_busLog (s : State) (nbits w : Nat) :
    (s.pushWord nbits w).busLog = s.busLog := rfl
@[simp] theorem State.pushWord_results (s : State) (nbits w : Nat) :
    (s.pushWord nbits w).results = s.results := rfl
@[simp] theorem State.pushWord_draws (s : State) (nbits w : Nat) :
    (s.pushWord nbits w).draws = s.draws := rfl

@[simp] theorem State.mapErr_regMap (s : State) (f : BusErr → BusErr) :
    (State.mapErr f s).regMap = s.regMap := rfl
@[simp] theorem State.mapErr_voltReg (s : State) (f : BusErr → BusErr) :
    (State.mapErr f s).voltReg = s.voltReg := rfl
@[simp] theorem State.mapErr_regSel (s : State) (f : BusErr → BusErr) :
    (State.mapErr f s).regSel = s.regSel := rfl
@[simp] theorem State.mapErr_rx0 (s : State) (f : BusErr → BusErr) :
    (State.mapErr f s).rx0 = s.rx0 := rfl
@[simp] theorem State.mapErr_rx1 (s : State) (f : BusErr → BusErr) :
    (State.mapErr f s).rx1 = s.rx1 := rfl
@[simp] theorem State.mapErr_pending (s : State) (f : BusErr → BusErr) :
    (State.mapErr f s).pending = s.pending := rfl
@[simp] theorem State.mapErr_answers (s : State) (f : BusErr → BusErr) :
    (State.mapErr f s).answers = s.answers.map (BusAnswer.mapErr f) := rfl
@[simp] theorem State.mapErr_busLog (s : State) (f : BusErr → BusErr) :
    (State.mapErr f s).busLog = s.busLog := rfl
@[simp] theorem State.mapErr_results (s : State) (f : BusErr → BusErr) :
    (State.mapErr f s).results = s.results.map (Observation.mapErr f) := rfl
@[simp] theorem State.mapErr_draws (s : State) (f : BusErr → BusErr) :
    (State.mapErr f s).draws = s.draws := rfl

end Sys2Proof.Machine
end

