-- ==== Sys2Proof/Laws/Ops.lean ====
section
/-! SUPPORT. What each shared operation can do, said once. -/

namespace Sys2Proof.Machine

/-- A select names its register (R61). -/
@[simp] theorem registerOf_selectOf (r : Register) : registerOf (selectOf r) = some r := by
  cases r <;> rfl

/-- Only a register's own select names it (R61). -/
theorem registerOf_eq_some_iff (sel : BitVec 4) (r : Register) :
    registerOf sel = some r ↔ sel = selectOf r := by
  cases r <;> revert sel <;> decide

/-- A select names no register exactly when it is reserved (R62). -/
theorem registerOf_eq_none_iff (sel : BitVec 4) : registerOf sel = none ↔ 13 ≤ sel.toNat := by
  revert sel
  decide

theorem selectOf_le (r : Register) : (selectOf r).toNat ≤ 12 := by
  cases r <;> decide

/-- The resolver on a register's select (R82, codes 0 to 12). -/
theorem resolve_selectOf (m : RegMap) (v : VoltReg) (r : Register) :
    resolve m v (selectOf r) =
      ⟨true, resolveDev (m.addr r), bankUpper (m.addr r), resolveOff (m.addr r), kindCode (kindOf v r)⟩ := by
  simp [resolve]

@[simp] theorem kindOfSel_selectOf (v : VoltReg) (r : Register) : kindOfSel v (selectOf r) = kindOf v r := by
  simp [kindOfSel]

/-- The kind of the register a query reads is the query's (R63, R64), whichever register `VOLT_REG` names. -/
theorem kindOf_qreg (v : VoltReg) (q : Query) :
    kindOf v (qreg v q) = match q with | .status => .status | .soc => .soc | .volt => .volt | .curr => .curr := by
  cases v <;> cases q <;> rfl

/-- The decoded value by the kind of the query's register is the query's (R121 to R124). -/
theorem decodeBy_qreg (v : VoltReg) (q : Query) (b0 b1 : Byte) :
    .ok (decodeBy (kindOf v (qreg v q)) (assemble b0 b1)) = expectedResult q (.ok b0 b1) := by
  cases v <;> cases q <;> rfl

theorem kindCode_le (k : Kind) : (kindCode k).toNat ≤ 4 := by
  cases k <;> decide

theorem resolveDev_eq (a : RegAddress) : resolveDev a = if bankUpper a then 0x0B else 0x36 := rfl

theorem resolve_legal (m : RegMap) (v : VoltReg) (r : Register) : (resolve m v (selectOf r)).Legal := by
  rw [resolve_selectOf]
  exact ⟨rfl, rfl, kindCode_le _⟩

theorem decodeMux_coherent (k : Kind) (w : RawWord) : (decodeMux k w).Coherent := by
  cases k <;> simp [DecodeOut.Coherent, decodeMux, valValid, flagsValid, valDen, valNum,
    Config.socDen, Config.voltDen, Config.currDen]

/-- A RESOLVE form always completes (R82, R83), and this is all it does. -/
theorem resolveOp_none (r : Register) (s : State) :
    resolveOp r none s = .next { s with
      regSel := selectOf r
      results := s.results ++ [.resolved (selectOf r) (resolve s.regMap s.voltReg (selectOf r))] } := rfl

/-- A DECODE form always completes (R107), and this is all it does. -/
theorem resolveOp_some (r : Register) (p : RxPair) (s : State) :
    resolveOp r (some p) s = .next { s with
      regSel := selectOf r
      rx0 := p.b0
      rx1 := p.b1
      results := s.results ++
        [.decoded (selectOf r) (decodeBlock s.regMap s.voltReg (selectOf r) p.b0 p.b1)] } := rfl

/-- A KIND operation always completes, and this is all it does. -/
theorem kindOp_eq (k : Kind) (s : State) :
    kindOp k s = .next { s with
      results := s.results ++ [.datapath (kindCode k) (decodeMux k (assemble s.rx0 s.rx1))] } := rfl

/-- A query on a scripted answer of two bytes, and this is all it does (R120). -/
theorem queryOp_ok (q : Query) (s : State) (b0 b1 : Byte) (rest : List BusAnswer)
    (h : s.answers = .ok b0 b1 :: rest) :
    queryOp q s = .next { s with
      regSel := selectOf (qreg s.voltReg q)
      rx0 := b0
      rx1 := b1
      answers := rest
      busLog := s.busLog ++ [requestFor s.regMap s.voltReg q]
      results := s.results ++ [.query q (expectedResult q (.ok b0 b1))] } := by
  rw [← decodeBy_qreg s.voltReg]
  simp [queryOp, State.busTransact, State.drawAnswer, h, State.finishQuery, State.driveSel, State.driveRx,
    State.observe, State.logRequest]

/-- A query on a scripted error, and this is all it does (R125). -/
theorem queryOp_err (q : Query) (s : State) (e : BusErr) (rest : List BusAnswer)
    (h : s.answers = .err e :: rest) :
    queryOp q s = .next { s with
      regSel := selectOf (qreg s.voltReg q)
      rx0 := Config.freeByte s.draws
      rx1 := Config.freeByte (s.draws + 1)
      draws := s.draws + 2
      answers := rest
      busLog := s.busLog ++ [requestFor s.regMap s.voltReg q]
      results := s.results ++ [.query q (.err e)] } := by
  simp [queryOp, State.busTransact, State.drawAnswer, h, State.finishQuery, State.raiseTransportError,
    State.freeRx, State.driveSel, State.observe, State.logRequest]

/-- Whatever the bus answers, a query completes with one transaction and one result (R126), and leaves the constants and
the pending commands alone. -/
theorem queryOp_next (q : Query) (s : State) :
    ∃ a t, queryOp q s = .next t ∧ t.regMap = s.regMap ∧ t.voltReg = s.voltReg ∧ t.pending = s.pending ∧
      t.regSel = selectOf (qreg s.voltReg q) ∧ t.answers = s.answers.tail ∧
      t.busLog = s.busLog ++ [requestFor s.regMap s.voltReg q] ∧
      t.results = s.results ++ [.query q (expectedResult q a)] ∧ (s.answers = [] ∨ s.answers.head? = some a) := by
  cases h : s.answers with
  | cons a rest =>
    cases a with
    | ok b0 b1 => exact ⟨_, _, queryOp_ok q s b0 b1 rest h, rfl, rfl, rfl, rfl, rfl, rfl, rfl, by simp⟩
    | err e =>
      refine ⟨.err e, _, queryOp_err q s e rest h, rfl, rfl, rfl, rfl, rfl, rfl, ?_, by simp⟩
      cases q <;> rfl
  | nil =>
    cases ha : Config.freeAnswer s.draws with
    | ok b0 b1 =>
      refine ⟨.ok b0 b1, _, rfl, ?_⟩
      rw [← decodeBy_qreg s.voltReg]
      simp [State.busTransact, State.drawAnswer, h, ha, State.finishQuery, requestFor]
    | err e =>
      refine ⟨.err e, _, rfl, ?_⟩
      cases q <;> simp [State.busTransact, State.drawAnswer, h, ha, State.finishQuery, requestFor, expectedResult]

end Sys2Proof.Machine
end

