-- ==== Sys2Proof/Laws/PerInstr.lean ====
section
/-! SUPPORT. Facts of the instruction as syntax, one lemma per constructor. -/

/-- Family SelectFits: an instruction's code fits its port (spec/30_encoding.md rules R61, R63, R64), and only a REG row
carries operand bytes, none or two (R73). -/
def Sys2Proof.Laws.SelectFits.Statement (i : Sys2Proof.Instr) : Prop :=
  i.code.toNat < 2 ^ i.port.width ∧
    (i.operands.length = 0 ∨ (i.port = .reg ∧ i.operands.length = 2))

namespace Sys2Proof.Laws.SelectFits

theorem rxBytes_length (rx : Option RxPair) : (rxBytes rx).length = 0 ∨ (rxBytes rx).length = 2 := by
  cases rx
  · exact .inl rfl
  · exact .inr rfl

/-- A REG row's fact, from its code. -/
theorem of_rx {i : Instr} {rx : Option RxPair} (hc : i.code.toNat < 2 ^ i.port.width) (hp : i.port = .reg)
    (ho : i.operands = rxBytes rx) : Statement i :=
  ⟨hc, by rw [ho]; exact (rxBytes_length rx).imp id fun h => ⟨hp, h⟩⟩

theorem resolveStatus (rx : Option RxPair) : Statement (.resolveStatus rx) :=
  of_rx (by simp [Instr.code, Instr.port, SelectPort.width]) rfl rfl

theorem resolveReportedCapacity (rx : Option RxPair) : Statement (.resolveReportedCapacity rx) :=
  of_rx (by simp [Instr.code, Instr.port, SelectPort.width]) rfl rfl

theorem resolveReportedStateOfCharge (rx : Option RxPair) : Statement (.resolveReportedStateOfCharge rx) :=
  of_rx (by simp [Instr.code, Instr.port, SelectPort.width]) rfl rfl

theorem resolveVoltage (rx : Option RxPair) : Statement (.resolveVoltage rx) :=
  of_rx (by simp [Instr.code, Instr.port, SelectPort.width]) rfl rfl

theorem resolveCurrent (rx : Option RxPair) : Statement (.resolveCurrent rx) :=
  of_rx (by simp [Instr.code, Instr.port, SelectPort.width]) rfl rfl

theorem resolveTimeToEmpty (rx : Option RxPair) : Statement (.resolveTimeToEmpty rx) :=
  of_rx (by simp [Instr.code, Instr.port, SelectPort.width]) rfl rfl

theorem resolveTimeToFull (rx : Option RxPair) : Statement (.resolveTimeToFull rx) :=
  of_rx (by simp [Instr.code, Instr.port, SelectPort.width]) rfl rfl

theorem resolveFullCapacity (rx : Option RxPair) : Statement (.resolveFullCapacity rx) :=
  of_rx (by simp [Instr.code, Instr.port, SelectPort.width]) rfl rfl

theorem resolveCoulombCount (rx : Option RxPair) : Statement (.resolveCoulombCount rx) :=
  of_rx (by simp [Instr.code, Instr.port, SelectPort.width]) rfl rfl

theorem resolvePackVoltage (rx : Option RxPair) : Statement (.resolvePackVoltage rx) :=
  of_rx (by simp [Instr.code, Instr.port, SelectPort.width]) rfl rfl

theorem resolvePackConfig (rx : Option RxPair) : Statement (.resolvePackConfig rx) :=
  of_rx (by simp [Instr.code, Instr.port, SelectPort.width]) rfl rfl

theorem resolveRomId (rx : Option RxPair) : Statement (.resolveRomId rx) :=
  of_rx (by simp [Instr.code, Instr.port, SelectPort.width]) rfl rfl

theorem resolveSenseResistor (rx : Option RxPair) : Statement (.resolveSenseResistor rx) :=
  of_rx (by simp [Instr.code, Instr.port, SelectPort.width]) rfl rfl

theorem reservedReg13 (rx : Option RxPair) : Statement (.reservedReg13 rx) :=
  of_rx (by simp [Instr.code, Instr.port, SelectPort.width]) rfl rfl

theorem reservedReg14 (rx : Option RxPair) : Statement (.reservedReg14 rx) :=
  of_rx (by simp [Instr.code, Instr.port, SelectPort.width]) rfl rfl

theorem reservedReg15 (rx : Option RxPair) : Statement (.reservedReg15 rx) :=
  of_rx (by simp [Instr.code, Instr.port, SelectPort.width]) rfl rfl

theorem queryStatus : Statement .queryStatus := by unfold Statement; decide

theorem querySoc : Statement .querySoc := by unfold Statement; decide

theorem queryVolt : Statement .queryVolt := by unfold Statement; decide

theorem queryCurr : Statement .queryCurr := by unfold Statement; decide

theorem kindRaw : Statement .kindRaw := by unfold Statement; decide

theorem kindStatus : Statement .kindStatus := by unfold Statement; decide

theorem kindSoc : Statement .kindSoc := by unfold Statement; decide

theorem kindVolt : Statement .kindVolt := by unfold Statement; decide

theorem kindCurr : Statement .kindCurr := by unfold Statement; decide

theorem reservedKind5 : Statement .reservedKind5 := by unfold Statement; decide

theorem reservedKind6 : Statement .reservedKind6 := by unfold Statement; decide

theorem reservedKind7 : Statement .reservedKind7 := by unfold Statement; decide

end Sys2Proof.Laws.SelectFits
end

