-- ==== Sys2Proof/Laws/Step.lean ====
section
/-! SUPPORT. The instruction's arms in terms of the shared operations, what a REG operation can do, and what a step can do,
each said once. -/

namespace Sys2Proof.Machine

/-- A register's row performs the REG operation on it. -/
theorem exec_resolve (r : Register) (rx : Option RxPair) (s : State) :
    exec (Instr.resolve r rx) s = resolveOp r rx s := by
  cases r <;> rfl

/-- A query's row performs the query. -/
theorem exec_query (q : Query) (s : State) : exec (Instr.query q) s = queryOp q s := by
  cases q <;> rfl

/-- A kind's row performs the KIND operation on it. -/
theorem exec_kind (k : Kind) (s : State) : exec (Instr.kind k) s = kindOp k s := by
  cases k <;> rfl

/-- An instruction is a register's, a query's or a kind's row, or it is not well formed and is refused. -/
theorem instr_cases (i : Instr) :
    (∃ r rx, i = Instr.resolve r rx) ∨ (∃ q, i = Instr.query q) ∨ (∃ k, i = Instr.kind k) ∨
      (i.wellFormed = false ∧ ∃ r, ∀ s, exec i s = .refused r) := by
  cases i with
  | resolveStatus rx => exact .inl ⟨.status, rx, rfl⟩
  | resolveReportedCapacity rx => exact .inl ⟨.reportedCapacity, rx, rfl⟩
  | resolveReportedStateOfCharge rx => exact .inl ⟨.reportedStateOfCharge, rx, rfl⟩
  | resolveVoltage rx => exact .inl ⟨.voltage, rx, rfl⟩
  | resolveCurrent rx => exact .inl ⟨.current, rx, rfl⟩
  | resolveTimeToEmpty rx => exact .inl ⟨.timeToEmpty, rx, rfl⟩
  | resolveTimeToFull rx => exact .inl ⟨.timeToFull, rx, rfl⟩
  | resolveFullCapacity rx => exact .inl ⟨.fullCapacity, rx, rfl⟩
  | resolveCoulombCount rx => exact .inl ⟨.coulombCount, rx, rfl⟩
  | resolvePackVoltage rx => exact .inl ⟨.packVoltage, rx, rfl⟩
  | resolvePackConfig rx => exact .inl ⟨.packConfig, rx, rfl⟩
  | resolveRomId rx => exact .inl ⟨.romId, rx, rfl⟩
  | resolveSenseResistor rx => exact .inl ⟨.senseResistor, rx, rfl⟩
  | queryStatus => exact .inr (.inl ⟨.status, rfl⟩)
  | querySoc => exact .inr (.inl ⟨.soc, rfl⟩)
  | queryVolt => exact .inr (.inl ⟨.volt, rfl⟩)
  | queryCurr => exact .inr (.inl ⟨.curr, rfl⟩)
  | kindRaw => exact .inr (.inr (.inl ⟨.raw, rfl⟩))
  | kindStatus => exact .inr (.inr (.inl ⟨.status, rfl⟩))
  | kindSoc => exact .inr (.inr (.inl ⟨.soc, rfl⟩))
  | kindVolt => exact .inr (.inr (.inl ⟨.volt, rfl⟩))
  | kindCurr => exact .inr (.inr (.inl ⟨.curr, rfl⟩))
  | reservedReg13 _ => exact .inr (.inr (.inr ⟨rfl, _, fun _ => rfl⟩))
  | reservedReg14 _ => exact .inr (.inr (.inr ⟨rfl, _, fun _ => rfl⟩))
  | reservedReg15 _ => exact .inr (.inr (.inr ⟨rfl, _, fun _ => rfl⟩))
  | reservedKind5 => exact .inr (.inr (.inr ⟨rfl, _, fun _ => rfl⟩))
  | reservedKind6 => exact .inr (.inr (.inr ⟨rfl, _, fun _ => rfl⟩))
  | reservedKind7 => exact .inr (.inr (.inr ⟨rfl, _, fun _ => rfl⟩))

/-- A REG operation of either form completes, drives the register's select, hands the caller one legal observation, and
leaves the bus, the constants and the pending commands alone. -/
theorem resolveOp_next (r : Register) (rx : Option RxPair) (s : State) :
    ∃ t o, resolveOp r rx s = .next t ∧ t.regMap = s.regMap ∧ t.voltReg = s.voltReg ∧ t.pending = s.pending ∧
      t.answers = s.answers ∧ t.busLog = s.busLog ∧ t.regSel = selectOf r ∧ t.results = s.results ++ [o] ∧
      o.Legal ∧ o.isQuery = false := by
  cases rx with
  | none => exact ⟨_, _, rfl, rfl, rfl, rfl, rfl, rfl, rfl, rfl, ⟨selectOf_le r, resolve_legal _ _ r⟩, rfl⟩
  | some p =>
    exact ⟨_, _, rfl, rfl, rfl, rfl, rfl, rfl, rfl, rfl,
      ⟨selectOf_le r, resolve_legal _ _ r, decodeMux_coherent _ _⟩, rfl⟩

/-- What a completed step did: nothing, with nothing pending, or the oldest command's instruction. -/
theorem step_cases {s t : State} (h : step s = .next t) :
    (s.pending = [] ∧ t = s) ∨
      ∃ c rest i, s.pending = c :: rest ∧ decode c = .ok i ∧ exec i { s with pending := rest } = .next t := by
  unfold step State.fetch at h
  cases hp : s.pending with
  | nil => simp_all
  | cons c rest =>
    simp only [hp] at h
    cases hd : decode c with
    | ok i =>
      rw [hd] at h
      exact .inr ⟨c, rest, i, rfl, hd, h⟩
    | error e => simp [hd, runDecoded] at h

theorem run_succ_of_step (M : Host.Core) (n : Nat) (s t : M.State) (h : M.step s = .next t) :
    M.run (n + 1) s = M.run n t := by
  simp only [Host.Core.run, h]

/-- A run of one more step than n is the step and then the run. -/
theorem core_run_succ (n : Nat) (s t : State) (h : step s = .next t) :
    Host.Core.run Sys2Proof.core (n + 1) s = Host.Core.run Sys2Proof.core n t :=
  run_succ_of_step Sys2Proof.core n s t h

end Sys2Proof.Machine
end

