-- ==== Sys2Proof/Tests/Slice0.lean ====
section
/-! SUPPORT. The model's own tests: expected results from spec/95_test_vectors.md, spec/30_encoding.md's tables and the
examples of the rules; and one witness for each obligation that has hypotheses. -/

namespace Sys2Proof.Machine.Tests

/-! ## Helpers -/

/-- What the caller got, where the outcome is a next state. -/
def got : Host.Outcome State Fault Refusal → Option (List Observation)
  | .next s => some s.results
  | .fault _ => none
  | .refused _ => none

/-- The transactions made, where the outcome is a next state. -/
def transacted : Host.Outcome State Fault Refusal → Option (List BusRequest)
  | .next s => some s.busLog
  | .fault _ => none
  | .refused _ => none

/-- Why an outcome is a refusal. -/
def refusedAs : Host.Outcome State Fault Refusal → Option Refusal
  | .next _ => none
  | .fault _ => none
  | .refused r => some r

/-- A small state: a map, `VOLT_REG`, two bytes on the ports, the bus's answers. -/
def small (m : RegMap) (v : VoltReg) (b0 b1 : Byte) (answers : List BusAnswer) : State :=
  { regMap := m, voltReg := v, regSel := 0, rx0 := b0, rx1 := b1, pending := [], answers := answers,
    busLog := [], results := [], draws := 0 }

/-- The informative table of 10_state.md section 5, as the premise of an example. -/
def gk (answers : List BusAnswer) : State := small .gk .packVoltage 0 0 answers

/-- Program P4's test table (95_test_vectors.md). -/
def p4Map : RegMap := { RegMap.gk with status := 0x000, packConfig := 0x100, romId := 0x101, senseResistor := 0x1FF }

/-! ## WellFormed: an ill-formed term for each check -/

theorem test_wellFormed_refuses_reserved_selects :
    (Instr.reservedReg13 none).wellFormed = false ∧ (Instr.reservedReg14 (some ⟨1, 2⟩)).wellFormed = false ∧
    (Instr.reservedReg15 none).wellFormed = false := by decide

theorem test_wellFormed_refuses_reserved_kinds :
    Instr.reservedKind5.wellFormed = false ∧ Instr.reservedKind6.wellFormed = false ∧
    Instr.reservedKind7.wellFormed = false := by decide

theorem test_wellFormed_accepts :
    (Instr.resolveStatus none).wellFormed = true ∧ (Instr.resolveSenseResistor (some ⟨0, 0⟩)).wellFormed = true ∧
    Instr.queryCurr.wellFormed = true ∧ Instr.kindRaw.wellFormed = true := by decide

/-! ## Decode: every row of the three tables, bit by bit (R61, R63, R64) -/

theorem test_decode_resolve_rows :
    decode ⟨.reg, 0b0000, []⟩ = .ok (.resolveStatus none) ∧
    decode ⟨.reg, 0b0001, []⟩ = .ok (.resolveReportedCapacity none) ∧
    decode ⟨.reg, 0b0010, []⟩ = .ok (.resolveReportedStateOfCharge none) ∧
    decode ⟨.reg, 0b0011, []⟩ = .ok (.resolveVoltage none) ∧
    decode ⟨.reg, 0b0100, []⟩ = .ok (.resolveCurrent none) ∧
    decode ⟨.reg, 0b0101, []⟩ = .ok (.resolveTimeToEmpty none) ∧
    decode ⟨.reg, 0b0110, []⟩ = .ok (.resolveTimeToFull none) ∧
    decode ⟨.reg, 0b0111, []⟩ = .ok (.resolveFullCapacity none) ∧
    decode ⟨.reg, 0b1000, []⟩ = .ok (.resolveCoulombCount none) ∧
    decode ⟨.reg, 0b1001, []⟩ = .ok (.resolvePackVoltage none) ∧
    decode ⟨.reg, 0b1010, []⟩ = .ok (.resolvePackConfig none) ∧
    decode ⟨.reg, 0b1011, []⟩ = .ok (.resolveRomId none) ∧
    decode ⟨.reg, 0b1100, []⟩ = .ok (.resolveSenseResistor none) ∧
    decode ⟨.reg, 0b1101, []⟩ = .ok (.reservedReg13 none) ∧
    decode ⟨.reg, 0b1110, []⟩ = .ok (.reservedReg14 none) ∧
    decode ⟨.reg, 0b1111, []⟩ = .ok (.reservedReg15 none) := by decide

theorem test_decode_decode_forms :
    decode ⟨.reg, 0b0000, [0x34, 0x12]⟩ = .ok (.resolveStatus (some ⟨0x34, 0x12⟩)) ∧
    decode ⟨.reg, 0b0001, [0x34, 0x12]⟩ = .ok (.resolveReportedCapacity (some ⟨0x34, 0x12⟩)) ∧
    decode ⟨.reg, 0b0010, [0x34, 0x12]⟩ = .ok (.resolveReportedStateOfCharge (some ⟨0x34, 0x12⟩)) ∧
    decode ⟨.reg, 0b0011, [0x34, 0x12]⟩ = .ok (.resolveVoltage (some ⟨0x34, 0x12⟩)) ∧
    decode ⟨.reg, 0b0100, [0x34, 0x12]⟩ = .ok (.resolveCurrent (some ⟨0x34, 0x12⟩)) ∧
    decode ⟨.reg, 0b0101, [0x34, 0x12]⟩ = .ok (.resolveTimeToEmpty (some ⟨0x34, 0x12⟩)) ∧
    decode ⟨.reg, 0b0110, [0x34, 0x12]⟩ = .ok (.resolveTimeToFull (some ⟨0x34, 0x12⟩)) ∧
    decode ⟨.reg, 0b0111, [0x34, 0x12]⟩ = .ok (.resolveFullCapacity (some ⟨0x34, 0x12⟩)) ∧
    decode ⟨.reg, 0b1000, [0x34, 0x12]⟩ = .ok (.resolveCoulombCount (some ⟨0x34, 0x12⟩)) ∧
    decode ⟨.reg, 0b1001, [0x34, 0x12]⟩ = .ok (.resolvePackVoltage (some ⟨0x34, 0x12⟩)) ∧
    decode ⟨.reg, 0b1010, [0x34, 0x12]⟩ = .ok (.resolvePackConfig (some ⟨0x34, 0x12⟩)) ∧
    decode ⟨.reg, 0b1011, [0x34, 0x12]⟩ = .ok (.resolveRomId (some ⟨0x34, 0x12⟩)) ∧
    decode ⟨.reg, 0b1100, [0x34, 0x12]⟩ = .ok (.resolveSenseResistor (some ⟨0x34, 0x12⟩)) := by decide

theorem test_decode_query_rows :
    decode ⟨.qry, 0b00, []⟩ = .ok .queryStatus ∧
    decode ⟨.qry, 0b01, []⟩ = .ok .querySoc ∧
    decode ⟨.qry, 0b10, []⟩ = .ok .queryVolt ∧
    decode ⟨.qry, 0b11, []⟩ = .ok .queryCurr := by decide

theorem test_decode_kind_rows :
    decode ⟨.kind, 0b000, []⟩ = .ok .kindRaw ∧
    decode ⟨.kind, 0b001, []⟩ = .ok .kindStatus ∧
    decode ⟨.kind, 0b010, []⟩ = .ok .kindSoc ∧
    decode ⟨.kind, 0b011, []⟩ = .ok .kindVolt ∧
    decode ⟨.kind, 0b100, []⟩ = .ok .kindCurr ∧
    decode ⟨.kind, 0b101, []⟩ = .ok .reservedKind5 ∧
    decode ⟨.kind, 0b110, []⟩ = .ok .reservedKind6 ∧
    decode ⟨.kind, 0b111, []⟩ = .ok .reservedKind7 := by decide

theorem test_decode_refuses_wide_codes :
    decode ⟨.reg, 16, []⟩ = .error (.codeTooWide .reg) ∧ decode ⟨.qry, 4, []⟩ = .error (.codeTooWide .qry) ∧
    decode ⟨.kind, 8, []⟩ = .error (.codeTooWide .kind) ∧ decode ⟨.reg, 255, [1, 2]⟩ = .error (.codeTooWide .reg) := by
  decide

theorem test_decode_refuses_operand_counts :
    decode ⟨.reg, 0, [1]⟩ = .error (.operandCount .reg) ∧ decode ⟨.reg, 0, [1, 2, 3]⟩ = .error (.operandCount .reg) ∧
    decode ⟨.qry, 0, [1, 2]⟩ = .error (.operandCount .qry) ∧ decode ⟨.kind, 0, [1]⟩ = .error (.operandCount .kind) := by
  decide

/-- A DECODE word: the code, then the two bytes in the order received. -/
theorem test_decodeTableWord_decode_form :
    decodeTableWord 24 0x123404 = some (.resolveCurrent (some ⟨0x34, 0x12⟩)) ∧
    decodeTableWord 8 0x0C = some (.resolveSenseResistor none) ∧ decodeTableWord 16 0x0004 = none := by decide

/-! ## Resolver: vectors 2.1, the GK examples of R84 to R96, program P4 -/

theorem test_resolver_boundary_vectors :
    resolveDev 0x000 = 0x36 ∧ resolveOff 0x000 = 0x00 ∧ resolveDev 0x0FF = 0x36 ∧ resolveOff 0x0FF = 0xFF ∧
    resolveDev 0x100 = 0x36 ∧ resolveOff 0x100 = 0x00 ∧ resolveDev 0x101 = 0x0B ∧ resolveOff 0x101 = 0x01 ∧
    resolveDev 0x17F = 0x0B ∧ resolveOff 0x17F = 0x7F ∧ resolveDev 0x1FF = 0x0B ∧ resolveOff 0x1FF = 0xFF := by decide

theorem test_resolve_status :
    got (exec (.resolveStatus none) (gk [])) =
      some [.resolved 0 ⟨true, 0x36, false, 0x00, 1⟩] := by decide

theorem test_resolve_reportedCapacity :
    got (exec (.resolveReportedCapacity none) (gk [])) =
      some [.resolved 1 ⟨true, 0x36, false, 0x05, 0⟩] := by decide

theorem test_resolve_reportedStateOfCharge :
    got (exec (.resolveReportedStateOfCharge none) (gk [])) =
      some [.resolved 2 ⟨true, 0x36, false, 0x06, 2⟩] := by decide

theorem test_resolve_voltage :
    got (exec (.resolveVoltage none) (gk [])) =
      some [.resolved 3 ⟨true, 0x36, false, 0x09, 0⟩] := by decide

theorem test_resolve_current :
    got (exec (.resolveCurrent none) (gk [])) =
      some [.resolved 4 ⟨true, 0x36, false, 0x0A, 4⟩] := by decide

theorem test_resolve_timeToEmpty :
    got (exec (.resolveTimeToEmpty none) (gk [])) =
      some [.resolved 5 ⟨true, 0x36, false, 0x11, 0⟩] := by decide

theorem test_resolve_timeToFull :
    got (exec (.resolveTimeToFull none) (gk [])) =
      some [.resolved 6 ⟨true, 0x36, false, 0x20, 0⟩] := by decide

theorem test_resolve_fullCapacity :
    got (exec (.resolveFullCapacity none) (gk [])) =
      some [.resolved 7 ⟨true, 0x36, false, 0x10, 0⟩] := by decide

theorem test_resolve_coulombCount :
    got (exec (.resolveCoulombCount none) (gk [])) =
      some [.resolved 8 ⟨true, 0x36, false, 0x4D, 0⟩] := by decide

theorem test_resolve_packVoltage :
    got (exec (.resolvePackVoltage none) (gk [])) =
      some [.resolved 9 ⟨true, 0x36, false, 0xDA, 3⟩] := by decide

theorem test_resolve_packConfig :
    got (exec (.resolvePackConfig none) (gk [])) =
      some [.resolved 10 ⟨true, 0x0B, true, 0xB5, 0⟩] := by decide

theorem test_resolve_romId :
    got (exec (.resolveRomId none) (gk [])) =
      some [.resolved 11 ⟨true, 0x0B, true, 0xBC, 0⟩] := by decide

theorem test_resolve_senseResistor :
    got (exec (.resolveSenseResistor none) (gk [])) =
      some [.resolved 12 ⟨true, 0x0B, true, 0xCF, 0⟩] := by decide

/-- With `VOLT_REG = Voltage` the kinds of the two voltage registers change places (vectors 2.2). -/
theorem test_resolve_voltage_other_volt_reg :
    got (exec (.resolveVoltage none) (small .gk .voltage 0 0 [])) = some [.resolved 3 ⟨true, 0x36, false, 0x09, 3⟩] ∧
    got (exec (.resolvePackVoltage none) (small .gk .voltage 0 0 [])) = some [.resolved 9 ⟨true, 0x36, false, 0xDA, 0⟩] := by
  decide

/-- Program P4: the alias at 0x100, and the first and last upper addresses. -/
theorem test_p4_bank_boundary :
    got (exec (.resolvePackConfig none) (small p4Map .packVoltage 0 0 [])) = some [.resolved 10 ⟨true, 0x36, false, 0x00, 0⟩] ∧
    got (exec (.resolveRomId none) (small p4Map .packVoltage 0 0 [])) = some [.resolved 11 ⟨true, 0x0B, true, 0x01, 0⟩] ∧
    got (exec (.resolveSenseResistor none) (small p4Map .packVoltage 0 0 [])) =
      some [.resolved 12 ⟨true, 0x0B, true, 0xFF, 0⟩] ∧
    refusedAs (exec (.reservedReg14 none) (small p4Map .packVoltage 0 0 [])) = some (.reservedRegSel 14) := by decide

theorem test_reserved_kind_refused :
    refusedAs (exec .reservedKind5 (gk [])) = some (.reservedKind 5) ∧
    refusedAs (exec .reservedKind7 (gk [])) = some (.reservedKind 7) := by decide

/-- Vectors 2.8, last row: a reserved select on the ports. -/
theorem test_reserved_select_outputs :
    State.outputs { small .gk .packVoltage 0x00 0x80 [] with regSel := 13 } =
      ⟨⟨false, 0, false, 0, 0⟩, ⟨0x8000, 0x1000, false, false, 0, 0⟩⟩ := by decide

/-! ## Decoder: vectors 2.3 to 2.8 and program P5 -/

theorem test_assemble_vectors :
    assemble 0x34 0x12 = 0x1234 ∧ assemble 0x12 0x34 = 0x3412 ∧ assemble 0x00 0x80 = 0x8000 ∧
    assemble 0xFF 0x7F = 0x7FFF ∧ assemble 0x01 0x00 = 0x0001 := by decide

theorem test_soc_vectors :
    valNum .soc 0xFFFF = 0x0FFFF ∧ (decodeSoc 0x0100).value = mkRat 1 1 ∧ (decodeSoc 0x0080).value = mkRat 1 2 ∧
    (decodeSoc 0xFF00).value = mkRat 255 1 ∧ (decodeSoc 0x8000).value = mkRat 128 1 := by decide

theorem test_volt_vectors :
    valNum .volt 0x8000 = 0x08000 ∧ (decodeVolt 0x0320).value = mkRat 1 1 ∧ (decodeVolt 0x0D20).value = mkRat 42 10 ∧
    (decodeVolt 0x2EE0).value = mkRat 15 1 ∧ (decodeVolt 0x8000).value = mkRat 4096 100 := by decide

theorem test_curr_vectors :
    valNum .curr 0x8000 = 0x18000 ∧ valNum .curr 0xFF9C = 0x1FF9C ∧ valNum .curr 0x7FFF = 0x07FFF ∧
    sint 0xE700 = -6400 ∧ (decodeCurr 0x8000).value = mkRat (-512) 100 ∧ (decodeCurr 0xFF9C).value = mkRat (-1) 64 ∧
    (decodeCurr 0x1900).value = mkRat 1 1 := by decide

theorem test_flags_vectors :
    packFlags 0x0002 = 0x0001 ∧ packFlags 0x0004 = 0x0002 ∧ packFlags 0x0008 = 0x0004 ∧ packFlags 0x0040 = 0x0008 ∧
    packFlags 0x0080 = 0x0010 ∧ packFlags 0x8000 = 0x1000 ∧ packFlags 0x0031 = 0x0000 ∧ packFlags 0xFFCE = 0x1FFF ∧
    packFlags 0xAAAA = 0x1555 ∧ packFlags 0x5555 = 0x0AAA := by decide

/-- No flag of the Status word. -/
def noFlags : StatusFlags :=
  ⟨false, false, false, false, false, false, false, false, false, false, false, false, false⟩

theorem test_status_vectors :
    decodeStatus 0x0002 = { noFlags with powerOnReset := true } ∧
    decodeStatus 0x0080 = { noFlags with socChange1PctAlert := true } ∧
    decodeStatus 0x8000 = { noFlags with batteryRemoval := true } ∧ decodeStatus 0x0031 = noFlags := by decide

/-- Vectors 2.8: one word under every kind, by DECODE. -/
theorem test_decode_form_vectors :
    got (exec (.resolveStatus (some ⟨0x00, 0x80⟩)) (gk [])) =
      some [.decoded 0 ⟨⟨true, 0x36, false, 0x00, 1⟩, ⟨0x8000, 0x1000, true, false, 0x00000, 0⟩⟩] ∧
    got (exec (.resolveReportedStateOfCharge (some ⟨0x00, 0x80⟩)) (gk [])) =
      some [.decoded 2 ⟨⟨true, 0x36, false, 0x06, 2⟩, ⟨0x8000, 0x1000, false, true, 0x08000, 256⟩⟩] ∧
    got (exec (.resolvePackVoltage (some ⟨0x00, 0x80⟩)) (gk [])) =
      some [.decoded 9 ⟨⟨true, 0x36, false, 0xDA, 3⟩, ⟨0x8000, 0x1000, false, true, 0x08000, 800⟩⟩] ∧
    got (exec (.resolveCurrent (some ⟨0x00, 0x80⟩)) (gk [])) =
      some [.decoded 4 ⟨⟨true, 0x36, false, 0x0A, 4⟩, ⟨0x8000, 0x1000, false, true, 0x18000, 6400⟩⟩] ∧
    got (exec (.resolveVoltage (some ⟨0x00, 0x80⟩)) (gk [])) =
      some [.decoded 3 ⟨⟨true, 0x36, false, 0x09, 0⟩, ⟨0x8000, 0x1000, false, false, 0x00000, 0⟩⟩] ∧
    got (exec (.resolvePackConfig (some ⟨0x00, 0x80⟩)) (gk [])) =
      some [.decoded 10 ⟨⟨true, 0x0B, true, 0xB5, 0⟩, ⟨0x8000, 0x1000, false, false, 0x00000, 0⟩⟩] := by decide

/-- Program P5's word under each KIND code. -/
theorem test_kind_operations :
    got (exec .kindRaw (small .gk .packVoltage 0xFF 0xFF [])) =
      some [.datapath 0 ⟨0xFFFF, 0x1FFF, false, false, 0, 0⟩] ∧
    got (exec .kindStatus (small .gk .packVoltage 0xFF 0xFF [])) =
      some [.datapath 1 ⟨0xFFFF, 0x1FFF, true, false, 0, 0⟩] ∧
    got (exec .kindSoc (small .gk .packVoltage 0xFF 0xFF [])) =
      some [.datapath 2 ⟨0xFFFF, 0x1FFF, false, true, 0x0FFFF, 256⟩] ∧
    got (exec .kindVolt (small .gk .packVoltage 0xFF 0xFF [])) =
      some [.datapath 3 ⟨0xFFFF, 0x1FFF, false, true, 0x0FFFF, 800⟩] ∧
    got (exec .kindCurr (small .gk .packVoltage 0xFF 0xFF [])) =
      some [.datapath 4 ⟨0xFFFF, 0x1FFF, false, true, 0x1FFFF, 6400⟩] := by decide

/-! ## Queries: vectors 2.9, program P1 under the GK table -/

theorem test_query_status :
    got (exec .queryStatus (gk [.ok 0x02 0x00])) =
      some [.query .status (.ok (.statusFlags { noFlags with powerOnReset := true }))] ∧
    transacted (exec .queryStatus (gk [.ok 0x02 0x00])) = some [⟨0x36, [0x00], 2⟩] := by decide

theorem test_query_soc :
    got (exec .querySoc (gk [.ok 0x00 0x32])) = some [.query .soc (.ok (.measurement ⟨mkRat 50 1, .percent⟩))] ∧
    transacted (exec .querySoc (gk [.ok 0x00 0x32])) = some [⟨0x36, [0x06], 2⟩] := by decide

theorem test_query_volt :
    got (exec .queryVolt (gk [.ok 0x20 0x0D])) = some [.query .volt (.ok (.measurement ⟨mkRat 42 10, .volt⟩))] ∧
    transacted (exec .queryVolt (gk [.ok 0x20 0x0D])) = some [⟨0x36, [0xDA], 2⟩] := by decide

/-- With `VOLT_REG = Voltage` the same query reads the other register. -/
theorem test_query_volt_other_volt_reg :
    transacted (exec .queryVolt (small .gk .voltage 0 0 [.ok 0x20 0x03])) = some [⟨0x36, [0x09], 2⟩] := by decide

theorem test_query_curr :
    got (exec .queryCurr (gk [.ok 0x9C 0xFF])) = some [.query .curr (.ok (.measurement ⟨mkRat (-1) 64, .ampere⟩))] ∧
    transacted (exec .queryCurr (gk [.ok 0x9C 0xFF])) = some [⟨0x36, [0x0A], 2⟩] := by decide

/-- A failed query: the error unchanged, one transaction, no retry (program P2's first step). -/
theorem test_query_error :
    got (exec .queryCurr (gk [.err ⟨7⟩, .ok 0x00 0x19])) = some [.query .curr (.err ⟨7⟩)] ∧
    transacted (exec .queryCurr (gk [.err ⟨7⟩, .ok 0x00 0x19])) = some [⟨0x36, [0x0A], 2⟩] := by decide

/-- A table word placed after reset is the operation the next step performs. -/
theorem test_withFetchWord_after_reset :
    (∃ t, step (State.reset.withFetchWord 4 0b0100) = .next t ∧ t.regSel = 4) ∧
    (∃ t, step (State.reset.withFetchWord 2 0b00) = .next t ∧ t.busLog.length = 1) ∧
    (∃ t, step (State.reset.withFetchWord 8 0b1010) = .next t ∧ t.regSel = 10) ∧
    step (State.reset.withFetchWord 4 0b1101) = .refused (.reservedRegSel 13) :=
  ⟨⟨_, rfl, rfl⟩, by
    obtain ⟨_, t, h, _, _, _, _, _, hb, _⟩ := queryOp_next .status State.reset
    exact ⟨t, h, by rw [hb]; rfl⟩, ⟨_, rfl, rfl⟩, rfl⟩

/-! ## Witnesses: a concrete state or operands for each obligation that has hypotheses -/

/-- A state that meets the invariant, about to perform QUERY SOC after one QUERY STATUS and one RESOLVE. -/
def busy : State :=
  { regMap := .gk, voltReg := .packVoltage, regSel := 12, rx0 := 0x02, rx1 := 0x00
    pending := [⟨.qry, 1, []⟩, ⟨.reg, 4, []⟩]
    answers := [.ok 0xFF 0xFF]
    busLog := [⟨0x36, [0x00], 2⟩]
    results := [.query .status (.ok (.statusFlags noFlags)), .resolved 12 ⟨true, 0x0B, true, 0xCF, 0⟩]
    draws := 0 }

theorem busy_inv : busy.Inv where
  map := by intro r; cases r <;> decide
  sel := by decide
  requests := by
    intro r hr
    rw [List.mem_singleton.1 hr]
    exact ⟨.status, .inl rfl, rfl⟩
  results := by
    intro o ho
    simp only [busy, List.mem_cons, List.not_mem_nil, or_false] at ho
    obtain rfl | rfl := ho
    · rfl
    · exact ⟨by decide, rfl, rfl, by decide⟩
  counts := rfl

theorem witness_DecodeEncodeAgree : ∃ c i, decode c = .ok i ∧ c = ⟨.reg, 4, [0x34, 0x12]⟩ :=
  ⟨_, _, rfl, rfl⟩

theorem witness_StepRunsDecodedInstr : ∃ i, decode ⟨.kind, 7, []⟩ = .ok i := ⟨_, rfl⟩

theorem witness_StepWithoutAnOperation :
    (∃ e, decode ⟨.reg, 16, []⟩ = .error e) ∧ (∃ e, decode ⟨.qry, 3, [0]⟩ = .error e) := ⟨⟨_, rfl⟩, ⟨_, rfl⟩⟩

/-- States on either side of every clause: idle, a well-formed command, a reserved one, one that is no operation. -/
theorem witness_StepCompletesExactlyWhenRunnable :
    (∃ t, step { busy with pending := [] } = .next t) ∧ (∃ t, step busy = .next t) ∧
    step { busy with pending := [⟨.reg, 13, []⟩] } = .refused (.reservedRegSel 13) ∧
    step { busy with pending := [⟨.kind, 8, []⟩] } = .refused (.undecodable (.codeTooWide .kind)) :=
  ⟨⟨_, rfl⟩, ⟨_, rfl⟩, rfl, rfl⟩

theorem witness_ConstantsNeverChange : ∃ t, step busy = .next t ∧ t ≠ busy := ⟨_, rfl, by decide⟩

theorem witness_OnlyQueriesUseTheBus :
    (∃ t, step busy = .next t ∧ t.busLog.length = 2) ∧
    (∃ t, step { busy with pending := [⟨.reg, 4, []⟩] } = .next t ∧ t.busLog.length = 1) :=
  ⟨⟨_, rfl, rfl⟩, ⟨_, rfl, rfl⟩⟩

theorem witness_ResolveDevStrictBoundary :
    0x100 < (0x101 : RegAddress).toNat ∧ (0x100 : RegAddress).toNat ≤ 0x100 := by decide

/-- Each clause of the boundary table at its ends; the clauses exclude each other. -/
theorem witness_ResolverBoundaryTable :
    (0x000 : RegAddress).toNat ≤ 0xFF ∧ (0x0FF : RegAddress).toNat ≤ 0xFF ∧ (0x100 : RegAddress).toNat = 0x100 ∧
    0x101 ≤ (0x101 : RegAddress).toNat ∧ (0x1FF : RegAddress).toNat ≤ 0x1FF ∧ 0x101 ≤ (0x1FF : RegAddress).toNat := by
  decide

theorem witness_OnlyZeroAndBoundaryCollide :
    (0x000 : RegAddress).toNat ≤ 0x1FF ∧ (0x100 : RegAddress).toNat ≤ 0x1FF ∧
    resolveDev 0x000 = resolveDev 0x100 ∧ resolveOff 0x000 = resolveOff 0x100 ∧
    ¬(resolveDev 0x001 = resolveDev 0x101 ∧ resolveOff 0x001 = resolveOff 0x101) := by decide

theorem witness_ReservedRegisterSelects :
    13 ≤ (State.regSel { busy with regSel := 13 }).toNat ∧ 13 ≤ (State.regSel { busy with regSel := 15 }).toNat ∧
    busy.regSel.toNat ≤ 12 := by decide

theorem witness_KindCodes : 13 ≤ (13 : BitVec 4).toNat ∧ 13 ≤ (15 : BitVec 4).toNat := by decide

theorem witness_AssembleLittleEndian : assemble 0x34 0x12 = assemble 0x34 0x12 := rfl

theorem witness_ScaledValueIsExact :
    (Kind.status = .status ∨ Kind.status = .raw) ∧ (Kind.raw = .status ∨ Kind.raw = .raw) ∧
    13 ≤ (14 : BitVec 4).toNat := by decide

theorem witness_OutputRanges : (0xFFFE : RawWord) ≠ 0xFFFF ∧ (0xFFFF : RawWord) ≠ 0x7FFF ∧ (0x8000 : RawWord) ≠ 0x7FFF ∧
    12 < 13 := by decide

theorem witness_FlagLanes : 0 < 13 ∧ 2 < 13 ∧ 3 < 13 ∧ 12 < 13 := by decide

theorem witness_OutputsDependOnInputsOnly :
    busy.regMap = ({ busy with pending := [], results := [] } : State).regMap ∧
    busy.voltReg = ({ busy with pending := [], results := [] } : State).voltReg ∧
    busy.regSel = ({ busy with pending := [], results := [] } : State).regSel ∧
    busy.rx0 = ({ busy with pending := [], results := [] } : State).rx0 ∧
    busy.rx1 = ({ busy with pending := [], results := [] } : State).rx1 ∧
    busy ≠ { busy with pending := [], results := [] } := by decide

theorem witness_StepKeepsInvariant : ∃ t, busy.Inv ∧ step busy = .next t ∧ t ≠ busy :=
  ⟨_, busy_inv, rfl, by decide⟩

end Sys2Proof.Machine.Tests
end

section
/-! SUPPORT. What a step and an instruction answer, as equations; renaming of bus errors through the operations; and the
block's outputs in the terms of the rules. -/

namespace Sys2Proof.Machine

/-- With nothing pending a step changes nothing (R16, log 11). -/
theorem step_of_pending_nil {s : State} (hp : s.pending = []) : step s = .next s := by
  simp [step, State.fetch, hp]

/-- With a command pending a step runs what the command decodes to. -/
theorem step_of_pending_cons {s : State} {c : Command} {rest : List Command} (hp : s.pending = c :: rest) :
    step s = runDecoded (decode c) { s with pending := rest } := by
  simp [step, State.fetch, hp]

/-- Every register's, query's and kind's row is well formed. -/
theorem wellFormed_resolve (r : Register) (rx : Option RxPair) : (Instr.resolve r rx).wellFormed = true := by
  cases r <;> rfl

theorem wellFormed_query (q : Query) : (Instr.query q).wellFormed = true := by
  cases q <;> rfl

theorem wellFormed_kind (k : Kind) : (Instr.kind k).wellFormed = true := by
  cases k <;> rfl

/-- A well-formed instruction completes in every state, and one that is not is refused in every state (R71, R141). -/
theorem exec_outcome (i : Instr) (s : State) :
    (i.wellFormed = true ∧ ∃ t, exec i s = .next t) ∨ (i.wellFormed = false ∧ ∃ r, exec i s = .refused r) := by
  obtain ⟨r, rx, rfl⟩ | ⟨q, rfl⟩ | ⟨k, rfl⟩ | ⟨hwf, r, href⟩ := instr_cases i
  · obtain ⟨t, _, ht, _⟩ := resolveOp_next r rx s
    exact .inl ⟨wellFormed_resolve r rx, t, by rw [exec_resolve, ht]⟩
  · obtain ⟨_, t, ht, _⟩ := queryOp_next q s
    exact .inl ⟨wellFormed_query q, t, by rw [exec_query, ht]⟩
  · exact .inl ⟨wellFormed_kind k, _, by rw [exec_kind, kindOp_eq]⟩
  · exact .inr ⟨hwf, r, href s⟩

/-! ### Renaming bus errors -/

theorem resolveOp_mapErr (f : BusErr → BusErr) (r : Register) (rx : Option RxPair) (s : State) :
    resolveOp r rx (s.mapErr f) = mapErrOutcome f (resolveOp r rx s) := by
  cases rx with
  | none => simp [resolveOp_none, mapErrOutcome, State.mapErr, Observation.mapErr]
  | some p => simp [resolveOp_some, mapErrOutcome, State.mapErr, Observation.mapErr]

theorem kindOp_mapErr (f : BusErr → BusErr) (k : Kind) (s : State) :
    kindOp k (s.mapErr f) = mapErrOutcome f (kindOp k s) := by
  simp [kindOp_eq, mapErrOutcome, State.mapErr, Observation.mapErr]

/-- The free answer of an empty script is no part of the state, so it cannot be renamed: hence the hypothesis. -/
theorem queryOp_mapErr (f : BusErr → BusErr) (q : Query) {s : State} {a : BusAnswer} {rest : List BusAnswer}
    (ha : s.answers = a :: rest) : queryOp q (s.mapErr f) = mapErrOutcome f (queryOp q s) := by
  have hmap : (s.mapErr f).answers = BusAnswer.mapErr f a :: rest.map (BusAnswer.mapErr f) := by simp [ha]
  cases a with
  | ok b0 b1 =>
    rw [queryOp_ok q _ b0 b1 _ hmap, queryOp_ok q s b0 b1 rest ha, ← decodeBy_qreg s.voltReg]
    simp [mapErrOutcome, State.mapErr, Observation.mapErr, QueryResult.mapErr]
  | err e =>
    rw [queryOp_err q _ (f e) _ hmap, queryOp_err q s e rest ha]
    simp [mapErrOutcome, State.mapErr, Observation.mapErr, QueryResult.mapErr]

/-- Executing any instruction commutes with renaming bus errors, where the script holds the next answer. -/
theorem exec_mapErr (f : BusErr → BusErr) (i : Instr) {s : State} {a : BusAnswer} {rest : List BusAnswer}
    (ha : s.answers = a :: rest) : exec i (s.mapErr f) = mapErrOutcome f (exec i s) := by
  obtain ⟨r, rx, rfl⟩ | ⟨q, rfl⟩ | ⟨k, rfl⟩ | ⟨_, r, href⟩ := instr_cases i
  · simp only [exec_resolve, resolveOp_mapErr]
  · simp only [exec_query, queryOp_mapErr f q ha]
  · simp only [exec_kind, kindOp_mapErr]
  · simp only [href, mapErrOutcome]

/-- A step commutes with renaming bus errors, where the script holds the next answer. -/
theorem step_mapErr (f : BusErr → BusErr) {s : State} {a : BusAnswer} {rest : List BusAnswer}
    (ha : s.answers = a :: rest) : step (s.mapErr f) = mapErrOutcome f (step s) := by
  cases hp : s.pending with
  | nil => rw [step_of_pending_nil hp, step_of_pending_nil (s := s.mapErr f) hp, mapErrOutcome]
  | cons c cs =>
    rw [step_of_pending_cons hp, step_of_pending_cons (s := s.mapErr f) hp]
    cases decode c with
    | error e => rfl
    | ok i => exact exec_mapErr f i (s := { s with pending := cs }) ha

/-! ### The outputs in the terms of the rules -/

/-- The kind code of a register is the one R64's table gives it. -/
theorem kindCode_kindOf (v : VoltReg) (r : Register) : kindCode (kindOf v r) = expectedKind v r := by
  cases v <;> cases r <;> rfl

/-- R43's byte order is R100's shift-or. -/
theorem assemble_eq_expectedWord (b0 b1 : Byte) : assemble b0 b1 = expectedWord b0 b1 := by
  refine BitVec.eq_of_getLsbD_eq fun i hi => ?_
  rw [assemble, expectedWord, BitVec.getLsbD_append]
  by_cases h : i < 8
  · simp [h, hi]
  · simp [h, hi, BitVec.getLsbD_of_ge b0 i (not_lt.mp h)]

/-- The multiplexer's outputs are what R105 gives the kind's code. -/
theorem decodeMux_eq_expectedDecode (k : Kind) (b0 b1 : Byte) :
    decodeMux k (assemble b0 b1) = expectedDecode (kindCode k) b0 b1 := by
  rw [assemble_eq_expectedWord]
  cases k <;> rfl

/-- The resolver on a register's select is what R82 gives the register's address and kind. -/
theorem resolve_eq_expectedResolve (m : RegMap) (v : VoltReg) (r : Register) :
    resolve m v (selectOf r) = expectedResolve (m.addr r) (expectedKind v r) := by
  rw [resolve_selectOf, kindCode_kindOf]
  simp only [expectedResolve, resolveDev, resolveOff, bankUpper, decide_eq_true_eq]
  rfl

/-- The block on a register's select, for any map, either `VOLT_REG` and any two bytes (R82, R100, R105). -/
theorem decodeBlock_selectOf (m : RegMap) (v : VoltReg) (r : Register) (b0 b1 : Byte) :
    decodeBlock m v (selectOf r) b0 b1 =
      ⟨expectedResolve (m.addr r) (expectedKind v r), expectedDecode (expectedKind v r) b0 b1⟩ := by
  rw [decodeBlock, resolve_eq_expectedResolve, kindOfSel_selectOf, decodeMux_eq_expectedDecode, kindCode_kindOf]

theorem RegMap.atReset_addr (r : Register) : RegMap.atReset.addr r = (Config.regAddr9 r).setWidth 16 := by
  cases r <;> rfl

/-- Nine bits reach every address of R27's range and no other. -/
theorem RegMap.atReset_wellFormed : RegMap.atReset.WellFormed := by
  intro r
  have h9 : (Config.regAddr9 r).toNat < 2 ^ 9 := (Config.regAddr9 r).isLt
  rw [RegMap.atReset_addr, BitVec.toNat_setWidth, Config.maxRegAddress]
  omega

end Sys2Proof.Machine
end

section
/-! The statements of spec/00_scope.md, settled. -/

namespace Sys2Proof.Machine

/-- Settles O8: by cases on the pending list, on what its oldest command decodes to, and on whether that instruction is
well formed. -/
theorem stepCompletesExactlyWhenRunnable : Obligations.StepCompletesExactlyWhenRunnable := by
  intro s
  cases hp : s.pending with
  | nil => simp [step_of_pending_nil hp]
  | cons c rest =>
    rw [step_of_pending_cons hp]
    cases hd : decode c with
    | error e => simp [runDecoded, hd]
    | ok i =>
      obtain ⟨hwf, t, ht⟩ | ⟨hwf, r, hr⟩ := exec_outcome i { s with pending := rest }
      · simp [runDecoded, hd, ht, hwf]
      · simp [runDecoded, hd, hr, hwf]

/-- Settles O40: a step commutes with the renaming because each shared operation does. -/
theorem busErrorsAreNotInspected : Obligations.BusErrorsAreNotInspected :=
  fun f _ _ _ => step_mapErr f rfl

/-- Settles O7: the step's equations for an empty and for a non-empty pending list. -/
theorem stepWithoutAnOperation : Obligations.StepWithoutAnOperation := by
  refine ⟨fun s => step_of_pending_nil rfl, fun s c rest e he => ?_⟩
  rw [step_of_pending_cons rfl, he, runDecoded]

/-- Settles O43: the map's 9-bit addresses are in range, and the block's outputs are the rules' for every map. -/
theorem resetState : Obligations.ResetState :=
  ⟨RegMap.atReset_wellFormed, rfl, fun r b0 b1 => decodeBlock_selectOf _ _ r b0 b1, rfl, rfl⟩

end Sys2Proof.Machine
end

section
/-! The lanes of the status word, as the packed flags and the flag record read them (R32, R65, R104). -/

namespace Sys2Proof.Machine

/-- The bit of the word that lane `i` of `FLAGS` carries (R65). -/
def laneBit (i : Nat) : Nat := if i < 3 then i + 1 else i + 3

/-- Lane `i` of `FLAGS` is exactly its bit of the word (R65). -/
theorem packFlags_getLsbD (w : RawWord) {i : Nat} (hi : i < 13) :
    (packFlags w).getLsbD i = w.getLsbD (laneBit i) := by
  rw [packFlags, laneBit, BitVec.getLsbD_append]
  by_cases h : i < 3
  · simp [h, Nat.add_comm]
  · have hlow : i - 3 < 10 := by omega
    have hbit : 6 + (i - 3) = i + 3 := by omega
    simp [h, hlow, hbit]

/-- Two words have the same packed flags exactly when they agree on every lane's bit. -/
theorem packFlags_eq_iff (w w' : RawWord) :
    packFlags w = packFlags w' ↔ ∀ i < 13, w.getLsbD (laneBit i) = w'.getLsbD (laneBit i) := by
  constructor
  · intro h i hi
    rw [← packFlags_getLsbD w hi, ← packFlags_getLsbD w' hi, h]
  · intro h
    refine BitVec.eq_of_getLsbD_eq fun i hi => ?_
    rw [packFlags_getLsbD w hi, packFlags_getLsbD w' hi, h i hi]

/-- Two words have the same flag record exactly when they agree on every lane's bit. -/
theorem decodeStatus_eq_iff (w w' : RawWord) :
    decodeStatus w = decodeStatus w' ↔ ∀ i < 13, w.getLsbD (laneBit i) = w'.getLsbD (laneBit i) := by
  simp only [decodeStatus, StatusFlags.mk.injEq, laneBit]
  constructor
  · rintro ⟨h15, h14, h13, h12, h11, h10, h9, h8, h7, h6, h3, h2, h1⟩ i hi
    interval_cases i <;> assumption
  · intro h
    exact ⟨h 12 (by decide), h 11 (by decide), h 10 (by decide), h 9 (by decide), h 8 (by decide), h 7 (by decide),
      h 6 (by decide), h 5 (by decide), h 4 (by decide), h 3 (by decide), h 2 (by decide), h 1 (by decide),
      h 0 (by decide)⟩

/-- The mask 0xFFCE has exactly the lanes' bits: all but 0, 4 and 5 (R32). -/
theorem flagMask_getLsbD_iff {j : Nat} (hj : j < 16) :
    (0xFFCE : RawWord).getLsbD j = true ↔ ∃ i < 13, laneBit i = j := by
  revert j
  decide

/-- Two words agree under the mask 0xFFCE exactly when they agree on every lane's bit. -/
theorem and_flagMask_eq_iff (w w' : RawWord) :
    w &&& 0xFFCE = w' &&& 0xFFCE ↔ ∀ i < 13, w.getLsbD (laneBit i) = w'.getLsbD (laneBit i) := by
  constructor
  · intro h i hi
    have hj : laneBit i < 16 := by unfold laneBit; split <;> omega
    have hmask := (flagMask_getLsbD_iff hj).mpr ⟨i, hi, rfl⟩
    simpa only [BitVec.getLsbD_and, hmask, Bool.and_true] using congrArg (·.getLsbD (laneBit i)) h
  · intro h
    refine BitVec.eq_of_getLsbD_eq fun j hj => ?_
    rw [BitVec.getLsbD_and, BitVec.getLsbD_and]
    cases hmask : (0xFFCE : RawWord).getLsbD j with
    | false => rw [Bool.and_false, Bool.and_false]
    | true =>
      obtain ⟨i, hi, rfl⟩ := (flagMask_getLsbD_iff hj).mp hmask
      rw [h i hi]

end Sys2Proof.Machine
end

section
/-! The range of every query's value (R111), what makes a step keep the invariant of a run, and that every instruction
does. -/

namespace Sys2Proof.Machine

/-! ### Ranges -/

/-- Values on one scale compare as their numerators do. -/
theorem mkRat_le_mkRat_iff (a b : Int) {d : Nat} (hd : 0 < d) : mkRat a d ≤ mkRat b d ↔ a ≤ b := by
  rw [Rat.mkRat_eq_div, Rat.mkRat_eq_div, div_le_div_iff_of_pos_right (by exact_mod_cast hd), Int.cast_le]

/-- An unsigned word on a scale lies between 0 and 65535 on it. -/
theorem mkRat_toNat_range (w : RawWord) {d : Nat} (hd : 0 < d) :
    0 ≤ mkRat w.toNat d ∧ mkRat w.toNat d ≤ mkRat 65535 d := by
  rw [Rat.mkRat_nonneg_iff _ hd.ne', mkRat_le_mkRat_iff _ _ hd]
  have := w.isLt
  omega

/-- A signed word on a scale lies between -32768 and 32767 on it. -/
theorem mkRat_toInt_range (w : RawWord) {d : Nat} (hd : 0 < d) :
    mkRat (-32768) d ≤ mkRat w.toInt d ∧ mkRat w.toInt d ≤ mkRat 32767 d := by
  rw [mkRat_le_mkRat_iff _ _ hd, mkRat_le_mkRat_iff _ _ hd]
  have hlow := BitVec.le_toInt w
  have hhigh := BitVec.toInt_lt (x := w)
  omega

/-- The result of a query is one the rules allow, whatever the bus answers (R75, R111). -/
theorem query_expectedResult_legal (q : Query) (a : BusAnswer) : (Observation.query q (expectedResult q a)).Legal := by
  cases a with
  | err e => cases q <;> trivial
  | ok b0 b1 =>
    cases q with
    | status => rfl
    | soc => exact .inl ⟨rfl, rfl, mkRat_toNat_range _ (by decide)⟩
    | volt => exact .inr (.inl ⟨rfl, rfl, mkRat_toNat_range _ (by decide)⟩)
    | curr => exact .inr (.inr ⟨rfl, rfl, mkRat_toInt_range _ (by decide)⟩)

/-! ### Requests -/

theorem queriedRegister_qreg (v : VoltReg) (q : Query) : QueriedRegister v (qreg v q) := by
  cases q <;> simp [QueriedRegister, qreg]

/-- The request of a query is one the block may make (R46, R47, R49). -/
theorem requestFor_allowed (m : RegMap) (v : VoltReg) (q : Query) : (requestFor m v q).Allowed m v :=
  ⟨qreg v q, queriedRegister_qreg v q, rfl⟩

/-! ### The invariant -/

/-- The invariant says nothing of the pending commands. -/
theorem State.Inv.set_pending {s : State} (h : s.Inv) (cs : List Command) : State.Inv { s with pending := cs } :=
  ⟨h.map, h.sel, h.requests, h.results, h.counts⟩

/-- What keeps the invariant: the constants stay, the select is a register's, the bus sees only allowed requests, and the
caller gets one legal observation, a query's exactly if there was a transaction. -/
theorem State.Inv.of_observed {s t : State} {reqs : List BusRequest} {o : Observation} (h : s.Inv)
    (hmap : t.regMap = s.regMap) (hvolt : t.voltReg = s.voltReg) (hsel : t.regSel.toNat ≤ 12)
    (hbus : t.busLog = s.busLog ++ reqs) (hres : t.results = s.results ++ [o])
    (hreqs : ∀ r ∈ reqs, r.Allowed s.regMap s.voltReg) (ho : o.Legal)
    (hcount : reqs.length = ([o].filter Observation.isQuery).length) : t.Inv where
  map := hmap ▸ h.map
  sel := hsel
  requests := by
    rw [hbus, hmap, hvolt]
    exact List.forall_mem_append.mpr ⟨h.requests, hreqs⟩
  results := by
    rw [hres]
    exact List.forall_mem_append.mpr ⟨h.results, List.forall_mem_singleton.mpr ho⟩
  counts := by
    rw [hbus, hres, List.filter_append, List.length_append, List.length_append, h.counts, hcount]

/-- A REG operation keeps the invariant: no transaction, one legal observation. -/
theorem resolveOp_inv {s t : State} {r : Register} {rx : Option RxPair} (h : s.Inv)
    (ht : resolveOp r rx s = .next t) : t.Inv := by
  obtain ⟨_, o, hop, hmap, hvolt, _, _, hbus, hsel, hres, ho, hq⟩ := resolveOp_next r rx s
  obtain rfl := Host.Outcome.next.inj (hop.symm.trans ht)
  exact h.of_observed (reqs := []) hmap hvolt (hsel ▸ selectOf_le r) (by rw [hbus, List.append_nil]) hres
    (List.forall_mem_nil _) ho (by simp [hq])

/-- A query keeps the invariant: one allowed transaction, one result in range. -/
theorem queryOp_inv {s t : State} {q : Query} (h : s.Inv) (ht : queryOp q s = .next t) : t.Inv := by
  obtain ⟨a, _, hop, hmap, hvolt, _, hsel, _, hbus, hres, _⟩ := queryOp_next q s
  obtain rfl := Host.Outcome.next.inj (hop.symm.trans ht)
  exact h.of_observed hmap hvolt (hsel ▸ selectOf_le _) hbus hres
    (List.forall_mem_singleton.mpr (requestFor_allowed _ _ q)) (query_expectedResult_legal q a) rfl

/-- A KIND operation keeps the invariant: no transaction, one coherent datapath. -/
theorem kindOp_inv {s t : State} {k : Kind} (h : s.Inv) (ht : kindOp k s = .next t) : t.Inv := by
  obtain rfl := Host.Outcome.next.inj ((kindOp_eq k s).symm.trans ht)
  exact h.of_observed (reqs := []) rfl rfl h.sel (List.append_nil _).symm rfl (List.forall_mem_nil _)
    ⟨kindCode_le k, decodeMux_coherent k _⟩ rfl

/-- Every instruction that completes keeps the invariant. -/
theorem exec_inv {s t : State} {i : Instr} (h : s.Inv) (ht : exec i s = .next t) : t.Inv := by
  obtain ⟨r, rx, rfl⟩ | ⟨q, rfl⟩ | ⟨k, rfl⟩ | ⟨_, r, href⟩ := instr_cases i
  · exact resolveOp_inv h (exec_resolve r rx s ▸ ht)
  · exact queryOp_inv h (exec_query q s ▸ ht)
  · exact kindOp_inv h (exec_kind k s ▸ ht)
  · cases (href s).symm.trans ht

end Sys2Proof.Machine
end

section
/-! The statements of spec/10_state.md, settled. -/

namespace Sys2Proof.Machine

/-- Settles O45: a completed step changed nothing or ran one instruction, and every instruction keeps the invariant. -/
theorem stepKeepsInvariant : Obligations.StepKeepsInvariant := by
  intro s t hinv hstep
  obtain ⟨_, rfl⟩ | ⟨_, rest, _, _, _, hexec⟩ := step_cases hstep
  · exact hinv
  · exact exec_inv (hinv.set_pending rest) hexec

/-- Settles O31: equal flag records, equal packed flags and equality under the mask all say that the words agree on the
13 lanes' bits. -/
theorem ignoredStatusBits : Obligations.IgnoredStatusBits := by
  intro w w'
  rw [decodeStatus_eq_iff, packFlags_eq_iff, and_flagMask_eq_iff]
  exact ⟨Iff.rfl, Iff.rfl⟩

/-- Settles O44: the map's 9-bit addresses are in range, the select is Status's, and nothing was transacted or handed
over yet. -/
theorem resetMeetsInvariant : Obligations.ResetMeetsInvariant where
  map := RegMap.atReset_wellFormed
  sel := Nat.zero_le 12
  requests := List.forall_mem_nil _
  results := List.forall_mem_nil _
  counts := rfl

end Sys2Proof.Machine
end

section
/-! SUPPORT. Where an address stands on the bus, as numbers (R80, R81, R42); the word of two bytes as a number (R43); a
query in the terms of the rules, and a queue of queries (R52, R120, R126). -/

namespace Sys2Proof.Machine

/-! ### The bus location of an address -/

/-- The upper device is exactly that of the addresses above 0x100 (R80). -/
theorem resolveDev_eq_upper_iff (a : RegAddress) : resolveDev a = 0x0B ↔ 0x100 < a.toNat := by
  rw [resolveDev_eq, bankUpper, Config.bankLimit]
  by_cases h : 0x100 < a.toNat <;> simp [h]

/-- The lower device is exactly that of the addresses up to 0x100 (R80). -/
theorem resolveDev_eq_lower_iff (a : RegAddress) : resolveDev a = 0x36 ↔ a.toNat ≤ 0x100 := by
  rw [resolveDev_eq, bankUpper, Config.bankLimit]
  by_cases h : 0x100 < a.toNat
  · simp [h]
  · simp [h, not_lt.mp h]

/-- Two addresses are on one device exactly when they lie on the same side of the boundary. -/
theorem resolveDev_eq_iff (a b : RegAddress) :
    resolveDev a = resolveDev b ↔ (0x100 < a.toNat ↔ 0x100 < b.toNat) := by
  by_cases h : 0x100 < b.toNat
  · rw [(resolveDev_eq_upper_iff b).mpr h, resolveDev_eq_upper_iff, iff_true_right h]
  · rw [(resolveDev_eq_lower_iff b).mpr (not_lt.mp h), resolveDev_eq_lower_iff, iff_false_right h, not_lt]

/-- The offset is the address modulo 256 (R81). -/
theorem resolveOff_toNat (a : RegAddress) : (resolveOff a).toNat = a.toNat % 256 := by
  rw [resolveOff, BitVec.extractLsb'_toNat, Nat.shiftRight_zero]

/-- An address has a given offset exactly when it is that offset modulo 256. -/
theorem resolveOff_eq_iff (a : RegAddress) (off : RegOffset) : resolveOff a = off ↔ a.toNat % 256 = off.toNat := by
  rw [← BitVec.toNat_inj, resolveOff_toNat]

/-- Within the legal range, 0x000 and 0x100 are the only two addresses at one bus location (R42). -/
theorem location_eq_iff {a b : RegAddress} (ha : a.toNat ≤ 0x1FF) (hb : b.toNat ≤ 0x1FF) :
    (resolveDev a = resolveDev b ∧ resolveOff a = resolveOff b) ↔
      a = b ∨ (a = 0x000 ∧ b = 0x100) ∨ (a = 0x100 ∧ b = 0x000) := by
  rw [resolveDev_eq_iff, resolveOff_eq_iff, resolveOff_toNat]
  bv_omega

/-- The upper device is reached at every offset but 0 (R42). -/
theorem upper_offset_iff (off : RegOffset) :
    (∃ a : RegAddress, a.toNat ≤ 0x1FF ∧ resolveDev a = 0x0B ∧ resolveOff a = off) ↔ off ≠ 0 := by
  simp only [resolveDev_eq_upper_iff, resolveOff_eq_iff]
  constructor
  · rintro ⟨a, hmax, hupper, hoff⟩
    bv_omega
  · intro hne
    refine ⟨0x100 + off.setWidth 16, ?_⟩
    bv_omega

/-- The lower device is reached at every offset (R42). -/
theorem lower_offset (off : RegOffset) :
    ∃ a : RegAddress, a.toNat ≤ 0x100 ∧ resolveDev a = 0x36 ∧ resolveOff a = off := by
  have hoff := off.isLt
  refine ⟨off.setWidth 16, ?_⟩
  rw [resolveDev_eq_lower_iff, resolveOff_eq_iff, BitVec.toNat_setWidth]
  omega

/-! ### The word of two bytes -/

/-- The first byte is worth 1, the second 256 (R43). -/
theorem assemble_toNat (b0 b1 : Byte) : (assemble b0 b1).toNat = 256 * b1.toNat + b0.toNat := by
  rw [assemble, BitVec.toNat_append, ← Nat.shiftLeft_add_eq_or_of_lt b0.isLt, Nat.shiftLeft_eq, Nat.mul_comm]

/-- A word is assembled from its low byte and its high byte. -/
theorem assemble_extractLsb' (w : RawWord) : assemble (w.extractLsb' 0 8) (w.extractLsb' 8 8) = w := by
  have hw := w.isLt
  rw [← BitVec.toNat_inj, assemble_toNat, BitVec.extractLsb'_toNat, BitVec.extractLsb'_toNat, Nat.shiftRight_zero,
    Nat.shiftRight_eq_div_pow]
  omega

/-- A word has only one pair of bytes. -/
theorem assemble_inj {b0 b1 c0 c1 : Byte} (h : assemble b0 b1 = assemble c0 c1) : b0 = c0 ∧ b1 = c1 := by
  have hnum := congrArg BitVec.toNat h
  have hb := b0.isLt
  have hc := c0.isLt
  rw [assemble_toNat, assemble_toNat] at hnum
  rw [← BitVec.toNat_inj, ← BitVec.toNat_inj]
  omega

/-! ### A query in the terms of the rules -/

/-- The address of the register a query reads (R63). -/
theorem addr_qreg (m : RegMap) (v : VoltReg) (q : Query) : m.addr (qreg v q) = expectedAddress m v q := by
  cases q with
  | volt => cases v <;> rfl
  | status | soc | curr => rfl

/-- The request of a query is the one R67 gives its register's address. -/
theorem requestFor_eq_expectedRequest (m : RegMap) (v : VoltReg) (q : Query) :
    requestFor m v q = expectedRequest (expectedAddress m v q) := by
  simp only [requestFor, expectedRequest, addr_qreg, resolveDev, resolveOff, bankUpper, decide_eq_true_eq]
  rfl

/-- A query's command decodes to the query (R63). -/
theorem decode_encode_query (q : Query) : decode (encode (Instr.query q)) = .ok (Instr.query q) := by
  cases q <;> rfl

/-- With a command pending that decodes to an instruction, a step executes it. -/
theorem step_of_decode_ok {s : State} {c : Command} {rest : List Command} {i : Instr} (hp : s.pending = c :: rest)
    (hd : decode c = .ok i) : step s = exec i { s with pending := rest } := by
  rw [step_of_pending_cons hp, hd, runDecoded]

/-! ### A queue of queries -/

/-- From `s` to `t` exactly the queries of `qas` were taken off the pending list, each met by its answer, and each left
its transaction and its result, in order; the constants stay. -/
structure QueriesRan (qas : List (Query × BusAnswer)) (s t : State) : Prop where
  pending : s.pending = qas.map (fun x => encode (Instr.query x.1)) ++ t.pending
  answers : s.answers = qas.map (fun x => x.2) ++ t.answers
  regMap  : t.regMap = s.regMap
  voltReg : t.voltReg = s.voltReg
  busLog  : t.busLog = s.busLog ++ qas.map (fun x => expectedRequest (expectedAddress s.regMap s.voltReg x.1))
  results : t.results = s.results ++ qas.map (fun x => .query x.1 (expectedResult x.1 x.2))

theorem QueriesRan.nil (s : State) : QueriesRan [] s s :=
  ⟨rfl, rfl, rfl, rfl, (List.append_nil _).symm, (List.append_nil _).symm⟩

/-- Queries run after queries are one longer queue. -/
theorem QueriesRan.append {xs ys : List (Query × BusAnswer)} {s u t : State} (hxs : QueriesRan xs s u)
    (hys : QueriesRan ys u t) : QueriesRan (xs ++ ys) s t where
  pending := by rw [hxs.pending, hys.pending, List.map_append, List.append_assoc]
  answers := by rw [hxs.answers, hys.answers, List.map_append, List.append_assoc]
  regMap := hys.regMap.trans hxs.regMap
  voltReg := hys.voltReg.trans hxs.voltReg
  busLog := by rw [hys.busLog, hxs.busLog, hxs.regMap, hxs.voltReg, List.map_append, List.append_assoc]
  results := by rw [hys.results, hxs.results, List.map_append, List.append_assoc]

/-- With a query's command pending and an answer coming, one step runs that query. -/
theorem step_query {s : State} {q : Query} {a : BusAnswer} {cs : List Command} {as : List BusAnswer}
    (hp : s.pending = encode (Instr.query q) :: cs) (ha : s.answers = a :: as) :
    ∃ t, step s = .next t ∧ t.pending = cs ∧ t.answers = as ∧ QueriesRan [(q, a)] s t := by
  obtain ⟨a', t, hop, hmap, hvolt, hpend, _, hans, hbus, hres, hhead⟩ := queryOp_next q { s with pending := cs }
  have hans : t.answers = as := by rw [hans, ha, List.tail_cons]
  obtain rfl : a = a' := by simpa [ha] using hhead
  refine ⟨t, ?_, hpend, hans, ?_⟩
  · rw [step_of_decode_ok hp (decode_encode_query q), exec_query, hop]
  · exact {
      pending := by rw [hp, hpend]; rfl
      answers := by rw [ha, hans]; rfl
      regMap := hmap
      voltReg := hvolt
      busLog := by rw [hbus, requestFor_eq_expectedRequest]; rfl
      results := hres }

/-- With queries pending and an answer coming for each, as many steps run exactly those queries. -/
theorem run_queries (qas : List (Query × BusAnswer)) (more : List Command) (rest : List BusAnswer) {s : State}
    (hp : s.pending = qas.map (fun x => encode (Instr.query x.1)) ++ more)
    (ha : s.answers = qas.map (fun x => x.2) ++ rest) :
    ∃ t, Host.Core.run Sys2Proof.core qas.length s = .next t ∧ QueriesRan qas s t := by
  induction qas generalizing s with
  | nil => exact ⟨s, rfl, .nil s⟩
  | cons x xs ih =>
    obtain ⟨u, hstep, hpend, hans, hx⟩ := step_query hp ha
    obtain ⟨t, hrun, hxs⟩ := ih hpend hans
    exact ⟨t, (core_run_succ _ _ _ hstep).trans hrun, hx.append hxs⟩

end Sys2Proof.Machine
end

section
/-! The statements of spec/20_memory.md, settled. -/

namespace Sys2Proof.Machine

/-- Settles O42: by induction on the queue (`run_queries`), each step running the oldest query. -/
theorem queuedQueriesRunInOrder : Obligations.QueuedQueriesRunInOrder := by
  intro qas more rest s
  obtain ⟨t, hrun, hran⟩ := run_queries qas more rest
    (s := { s with
      pending := qas.map (fun x => encode (Instr.query x.1)) ++ more
      answers := qas.map (fun x => x.2) ++ rest }) rfl rfl
  exact ⟨t, hrun, (List.append_cancel_left hran.pending).symm, (List.append_cancel_left hran.answers).symm,
    hran.regMap, hran.voltReg, hran.busLog, hran.results⟩

/-- Settles O11: a completed step changed nothing or ran one instruction, and only a query's row touches the bus. -/
theorem onlyQueriesUseTheBus : Obligations.OnlyQueriesUseTheBus := by
  intro s t hstep
  obtain ⟨_, rfl⟩ | ⟨c, rest, i, hp, hd, hexec⟩ := step_cases hstep
  · exact .inl ⟨rfl, rfl⟩
  obtain ⟨r, rx, rfl⟩ | ⟨q, rfl⟩ | ⟨k, rfl⟩ | ⟨_, r, href⟩ := instr_cases i
  · obtain ⟨_, _, hop, _, _, _, hans, hbus, _⟩ := resolveOp_next r rx { s with pending := rest }
    obtain rfl := Host.Outcome.next.inj (hop.symm.trans (exec_resolve r rx _ ▸ hexec))
    exact .inl ⟨hbus, hans⟩
  · obtain ⟨_, _, hop, _, _, _, _, hans, hbus, _⟩ := queryOp_next q { s with pending := rest }
    obtain rfl := Host.Outcome.next.inj (hop.symm.trans (exec_query q _ ▸ hexec))
    rw [requestFor_eq_expectedRequest] at hbus
    exact .inr ⟨c, rest, q, hp, hd, hans, hbus⟩
  · obtain rfl := Host.Outcome.next.inj ((kindOp_eq k _).symm.trans (exec_kind k _ ▸ hexec))
    exact .inl ⟨rfl, rfl⟩
  · cases (href _).symm.trans hexec

/-- Settles O15: on the numbers, one device means one side of 0x100 and one offset means equal modulo 256. -/
theorem onlyZeroAndBoundaryCollide : Obligations.OnlyZeroAndBoundaryCollide :=
  ⟨fun _ _ => location_eq_iff, by decide, upper_offset_iff, lower_offset⟩

/-- Settles O22: the bytes are the word's two digits to the base 256. -/
theorem assembleLittleEndian : Obligations.AssembleLittleEndian :=
  ⟨assemble_eq_expectedWord, assemble_toNat, fun w => ⟨_, _, assemble_extractLsb' w⟩,
    fun _ _ _ _ => assemble_inj, fun _ _ _ b0 b1 => assemble_eq_expectedWord b0 b1, rfl⟩

/-- Settles O6: the step's equation for a pending command that decodes. -/
theorem stepRunsDecodedInstr : Obligations.StepRunsDecodedInstr :=
  fun _ _ _ _ => step_of_decode_ok rfl

end Sys2Proof.Machine
end

section
/-! SUPPORT. The decoder as equations and inversions, one per format, and that it agrees with the encoder (R61, R63,
R64, R73). -/

/-- Every instruction's code fits its port, and its operand bytes its format. -/
theorem Sys2Proof.Laws.SelectFits.all : ∀ i : Sys2Proof.Instr, Statement i
  | .resolveStatus rx => resolveStatus rx
  | .resolveReportedCapacity rx => resolveReportedCapacity rx
  | .resolveReportedStateOfCharge rx => resolveReportedStateOfCharge rx
  | .resolveVoltage rx => resolveVoltage rx
  | .resolveCurrent rx => resolveCurrent rx
  | .resolveTimeToEmpty rx => resolveTimeToEmpty rx
  | .resolveTimeToFull rx => resolveTimeToFull rx
  | .resolveFullCapacity rx => resolveFullCapacity rx
  | .resolveCoulombCount rx => resolveCoulombCount rx
  | .resolvePackVoltage rx => resolvePackVoltage rx
  | .resolvePackConfig rx => resolvePackConfig rx
  | .resolveRomId rx => resolveRomId rx
  | .resolveSenseResistor rx => resolveSenseResistor rx
  | .reservedReg13 rx => reservedReg13 rx
  | .reservedReg14 rx => reservedReg14 rx
  | .reservedReg15 rx => reservedReg15 rx
  | .queryStatus => queryStatus
  | .querySoc => querySoc
  | .queryVolt => queryVolt
  | .queryCurr => queryCurr
  | .kindRaw => kindRaw
  | .kindStatus => kindStatus
  | .kindSoc => kindSoc
  | .kindVolt => kindVolt
  | .kindCurr => kindCurr
  | .reservedKind5 => reservedKind5
  | .reservedKind6 => reservedKind6
  | .reservedKind7 => reservedKind7

namespace Sys2Proof

/-! ### The operand bytes -/

/-- The operand bytes read as an `RX` operand exactly when they are that operand's bytes. -/
theorem rxOperand_eq_some_iff (ops : List Byte) (rx : Option RxPair) :
    rxOperand ops = some rx ↔ ops = rxBytes rx := by
  constructor
  · intro h
    unfold rxOperand at h
    split at h <;> cases h <;> rfl
  · rintro rfl
    cases rx <;> rfl

/-- None or two bytes are the bytes of an `RX` operand (R73). -/
theorem exists_eq_rxBytes {ops : List Byte} (h : ops.length = 0 ∨ ops.length = 2) : ∃ rx, ops = rxBytes rx := by
  obtain h | h := h
  · exact ⟨none, List.length_eq_zero_iff.mp h⟩
  · obtain ⟨b0, b1, rfl⟩ := List.length_eq_two.mp h
    exact ⟨some ⟨b0, b1⟩, rfl⟩

/-! ### The three tables -/

/-- A REG code decodes to the REG row of that code with the operand given. -/
theorem decodeReg_ok {n : Nat} {rx : Option RxPair} {i : Instr} (h : decodeReg n rx = .ok i) :
    i.port = .reg ∧ i.code.toNat = n ∧ i.operands = rxBytes rx := by
  unfold decodeReg at h
  split at h <;> cases h <;> exact ⟨rfl, rfl, rfl⟩

/-- A QRY code decodes to the QRY row of that code. -/
theorem decodeQry_ok {n : Nat} {i : Instr} (h : decodeQry n = .ok i) :
    i.port = .qry ∧ i.code.toNat = n ∧ i.operands = [] := by
  unfold decodeQry at h
  split at h <;> cases h <;> exact ⟨rfl, rfl, rfl⟩

/-- A KIND code decodes to the KIND row of that code. -/
theorem decodeKind_ok {n : Nat} {i : Instr} (h : decodeKind n = .ok i) :
    i.port = .kind ∧ i.code.toNat = n ∧ i.operands = [] := by
  unfold decodeKind at h
  split at h <;> cases h <;> exact ⟨rfl, rfl, rfl⟩

/-- Every code of 4 bits is a row of the REG table (R61). -/
theorem exists_decodeReg {n : Nat} (h : n < 16) (rx : Option RxPair) : ∃ i, decodeReg n rx = .ok i := by
  interval_cases n <;> exact ⟨_, rfl⟩

/-- Every code of 2 bits is a query (R63). -/
theorem exists_decodeQry {n : Nat} (h : n < 4) : ∃ q, decodeQry n = .ok (Instr.query q) := by
  interval_cases n
  · exact ⟨.status, rfl⟩
  · exact ⟨.soc, rfl⟩
  · exact ⟨.volt, rfl⟩
  · exact ⟨.curr, rfl⟩

/-- Every code of 3 bits is a row of the KIND table (R64). -/
theorem exists_decodeKind {n : Nat} (h : n < 8) : ∃ i, decodeKind n = .ok i := by
  interval_cases n <;> exact ⟨_, rfl⟩

/-! ### The decoder on each port -/

/-- A REG command with an operand's bytes is read from the REG table. -/
theorem decode_reg_rxBytes (code : BitVec 8) (rx : Option RxPair) :
    decode ⟨.reg, code, rxBytes rx⟩ = decodeReg code.toNat rx := by
  cases rx <;> rfl

/-- A QRY command with no operand byte is read from the QRY table. -/
theorem decode_qry_nil (code : BitVec 8) : decode ⟨.qry, code, []⟩ = decodeQry code.toNat := rfl

/-- A KIND command with no operand byte is read from the KIND table. -/
theorem decode_kind_nil (code : BitVec 8) : decode ⟨.kind, code, []⟩ = decodeKind code.toNat := rfl

/-- An instruction is encoded as a command exactly when it has the command's port, code and operand bytes. -/
theorem encode_eq_iff (i : Instr) (c : Command) :
    encode i = c ↔ i.port = c.port ∧ i.code.toNat = c.code.toNat ∧ i.operands = c.operands := by
  cases c
  rw [encode, Command.mk.injEq, BitVec.toNat_inj]

/-- Every instruction's command decodes to it. -/
theorem decode_encode : ∀ i : Instr, decode (encode i) = .ok i
  | .resolveStatus rx => decode_reg_rxBytes _ rx
  | .resolveReportedCapacity rx => decode_reg_rxBytes _ rx
  | .resolveReportedStateOfCharge rx => decode_reg_rxBytes _ rx
  | .resolveVoltage rx => decode_reg_rxBytes _ rx
  | .resolveCurrent rx => decode_reg_rxBytes _ rx
  | .resolveTimeToEmpty rx => decode_reg_rxBytes _ rx
  | .resolveTimeToFull rx => decode_reg_rxBytes _ rx
  | .resolveFullCapacity rx => decode_reg_rxBytes _ rx
  | .resolveCoulombCount rx => decode_reg_rxBytes _ rx
  | .resolvePackVoltage rx => decode_reg_rxBytes _ rx
  | .resolvePackConfig rx => decode_reg_rxBytes _ rx
  | .resolveRomId rx => decode_reg_rxBytes _ rx
  | .resolveSenseResistor rx => decode_reg_rxBytes _ rx
  | .reservedReg13 rx => decode_reg_rxBytes _ rx
  | .reservedReg14 rx => decode_reg_rxBytes _ rx
  | .reservedReg15 rx => decode_reg_rxBytes _ rx
  | .queryStatus | .querySoc | .queryVolt | .queryCurr => rfl
  | .kindRaw | .kindStatus | .kindSoc | .kindVolt | .kindCurr
  | .reservedKind5 | .reservedKind6 | .reservedKind7 => rfl

/-- A command decodes to no instruction but the one it is the command of. -/
theorem encode_of_decode_ok {c : Command} {i : Instr} (h : decode c = .ok i) : encode i = c := by
  obtain ⟨port, code, ops⟩ := c
  rw [encode_eq_iff]
  cases port with
  | reg =>
    cases hrx : rxOperand ops with
    | none => simp [decode, hrx] at h
    | some rx =>
      obtain rfl := (rxOperand_eq_some_iff ops rx).mp hrx
      exact decodeReg_ok (decode_reg_rxBytes code rx ▸ h)
  | qry =>
    cases ops with
    | nil => exact decodeQry_ok (decode_qry_nil code ▸ h)
    | cons _ _ => simp [decode] at h
  | kind =>
    cases ops with
    | nil => exact decodeKind_ok (decode_kind_nil code ▸ h)
    | cons _ _ => simp [decode] at h

end Sys2Proof
end

section
/-! SUPPORT. A register select is a register's or reserved, and what the block drives on each (R61, R62); the numerators
of the scaled value as integers (R66); the DECODE and KIND operations in the terms of the rules (R73, R105). -/

namespace Sys2Proof.Machine

/-! ### Register selects -/

/-- A select that is not reserved is a register's (R61). -/
theorem exists_selectOf_eq {sel : BitVec 4} (h : sel.toNat ≤ 12) : ∃ r, selectOf r = sel := by
  cases hr : registerOf sel with
  | none =>
    have := (registerOf_eq_none_iff sel).mp hr
    omega
  | some r => exact ⟨r, ((registerOf_eq_some_iff sel r).mp hr).symm⟩

/-- The resolver on a reserved select drives zeros (R62). -/
theorem resolve_reserved (m : RegMap) (v : VoltReg) {sel : BitVec 4} (h : 13 ≤ sel.toNat) :
    resolve m v sel = ⟨false, 0, false, 0, 0⟩ := by
  rw [resolve, (registerOf_eq_none_iff sel).mpr h]
  rfl

/-- A reserved select's decode kind is RAW (R62). -/
theorem kindOfSel_reserved (v : VoltReg) {sel : BitVec 4} (h : 13 ≤ sel.toNat) : kindOfSel v sel = .raw := by
  rw [kindOfSel, (registerOf_eq_none_iff sel).mpr h]

/-- The block on a reserved select: the resolver's zeros, and the outputs of kind RAW on the two bytes (R62). -/
theorem decodeBlock_reserved (m : RegMap) (v : VoltReg) {sel : BitVec 4} (h : 13 ≤ sel.toNat) (b0 b1 : Byte) :
    decodeBlock m v sel b0 b1 = ⟨⟨false, 0, false, 0, 0⟩, expectedDecode 0 b0 b1⟩ := by
  rw [decodeBlock, resolve_reserved m v h, kindOfSel_reserved v h, decodeMux_eq_expectedDecode, kindCode]

/-- No select drives a kind code above 4 (R64). -/
theorem resolve_kind_le (m : RegMap) (v : VoltReg) (sel : BitVec 4) : (resolve m v sel).kind.toNat ≤ 4 := by
  by_cases h : sel.toNat ≤ 12
  · obtain ⟨r, rfl⟩ := exists_selectOf_eq h
    rw [resolve_selectOf]
    exact kindCode_le _
  · rw [resolve_reserved m v (not_le.mp h)]
    exact Nat.zero_le 4

/-- The select of the register a query reads is the one R63 gives. -/
theorem selectOf_qreg (v : VoltReg) (q : Query) : selectOf (qreg v q) = expectedSelect v q := by
  cases q with
  | volt => cases v <;> rfl
  | status | soc | curr => rfl

/-! ### The scaled value -/

/-- Bit 16 is the sign of a 17-bit numerator (R66). -/
theorem sint17_eq (n : BitVec 17) : sint17 n = if n.getLsbD 16 then (n.toNat : Int) - 131072 else n.toNat := by
  rw [sint17, BitVec.toInt_eq_msb_cond, BitVec.msb_eq_getLsbD_last]
  rfl

/-- Zero-extended to 17 bits a word keeps its unsigned number: the numerator of SOC and VOLT. -/
theorem sint17_zeroExtend (w : RawWord) : sint17 (w.zeroExtend 17) = w.toNat := by
  have hw := w.isLt
  rw [sint17, BitVec.zeroExtend, BitVec.toInt_setWidth]
  rw [Int.bmod_eq_of_le] <;> omega

/-- Sign-extended to 17 bits a word keeps its signed number: the numerator of CURR. -/
theorem sint17_signExtend (w : RawWord) : sint17 (w.signExtend 17) = sint w :=
  BitVec.toInt_signExtend_of_le (by decide)

/-- `VAL` of SOC (R66, R101). -/
theorem decodeMux_soc_val (w : RawWord) : (decodeMux .soc w).val = some (mkRat w.toNat 256) := by
  rw [← sint17_zeroExtend]
  rfl

/-- `VAL` of VOLT (R66, R102). -/
theorem decodeMux_volt_val (w : RawWord) : (decodeMux .volt w).val = some (mkRat w.toNat 800) := by
  rw [← sint17_zeroExtend]
  rfl

/-- `VAL` of CURR (R66, R103). -/
theorem decodeMux_curr_val (w : RawWord) : (decodeMux .curr w).val = some (mkRat (sint w) 6400) := by
  rw [← sint17_signExtend]
  rfl

/-! ### The operations in the terms of the rules -/

/-- DECODE of any register drives its select and the two bytes and observes every output (R73, R82, R105). -/
theorem decodesAs_resolve (r : Register) :
    DecodesAs (Instr.resolve r) (selectOf r) (fun m => m.addr r) (fun v => expectedKind v r) := by
  intro s b0 b1
  rw [exec_resolve, resolveOp_some, decodeBlock_selectOf]

/-- The KIND operation of any kind hands over the outputs R105 gives its code on the present bytes. -/
theorem exec_kind_eq (k : Kind) (s : State) :
    exec (Instr.kind k) s = .next { s with
      results := s.results ++ [.datapath (kindCode k) (expectedDecode (kindCode k) s.rx0 s.rx1)] } := by
  rw [exec_kind, kindOp_eq, decodeMux_eq_expectedDecode]

end Sys2Proof.Machine
end

section
/-! The statements of spec/30_encoding.md, settled. -/

namespace Sys2Proof.Machine

/-- Settles O1: one direction by the instruction's row, the other by inversion of the three tables. -/
theorem decodeEncodeAgree : Obligations.DecodeEncodeAgree :=
  ⟨decode_encode, fun _ _ => encode_of_decode_ok⟩

/-- Settles O2: a command that decodes is an instruction's, whose code fits its port; a code that fits is in its port's
table. -/
theorem decodableCommands : Obligations.DecodableCommands := by
  intro c
  constructor
  · rintro ⟨i, hi⟩
    obtain rfl := encode_of_decode_ok hi
    obtain ⟨hcode, hops⟩ := Laws.SelectFits.all i
    cases hport : i.port <;> rw [hport] at hcode hops
    · exact .inl ⟨hport, hcode, by simpa [encode] using hops⟩
    · exact .inr (.inl ⟨hport, hcode, by simpa [encode] using hops⟩)
    · exact .inr (.inr ⟨hport, hcode, by simpa [encode] using hops⟩)
  · obtain ⟨port, code, ops⟩ := c
    rintro (⟨rfl, hcode, hops⟩ | ⟨rfl, hcode, rfl⟩ | ⟨rfl, hcode, rfl⟩)
    · obtain ⟨rx, rfl⟩ := exists_eq_rxBytes hops
      rw [decode_reg_rxBytes]
      exact exists_decodeReg hcode rx
    · rw [decode_qry_nil]
      obtain ⟨q, hq⟩ := exists_decodeQry hcode
      exact ⟨_, hq⟩
    · rw [decode_kind_nil]
      exact exists_decodeKind hcode

/-- Settles O9: an instruction completes or is refused, as it is well formed or not. -/
theorem execCompletesIffWellFormed : Obligations.ExecCompletesIffWellFormed := by
  intro i s
  obtain ⟨hwf, t, ht⟩ | ⟨hwf, r, hr⟩ := exec_outcome i s
  · simp [hwf, ht]
  · simp [hwf, hr]

/-- Settles O20: every select is a register's or reserved, and a query drives the select of the register it reads. -/
theorem reservedRegisterSelects : Obligations.ReservedRegisterSelects := by
  refine ⟨fun rx s => ⟨rfl, rfl, rfl⟩, fun s h => decodeBlock_reserved _ _ h _ _, fun s h => ?_, fun q s => ?_⟩
  · obtain ⟨r, hr⟩ := exists_selectOf_eq h
    rw [State.outputs, ← hr, decodeBlock_selectOf, expectedResolve]
  · obtain ⟨_, t, ht, _, _, _, hsel, _⟩ := queryOp_next q s
    exact ⟨t, exec_query q s ▸ ht, hsel ▸ selectOf_le _⟩

/-- Settles O21: the resolver's outputs on a register's select and on a reserved one; the reserved rows' own arms. -/
theorem kindCodes : Obligations.KindCodes := by
  refine ⟨fun m v r => ?_, fun m v sel h => ?_, resolve_kind_le, fun s => ⟨rfl, rfl, rfl⟩⟩
  · rw [resolve_eq_expectedResolve, expectedResolve]
  · rw [resolve_reserved m v h]

/-- Settles O25: the numerator of each kind, as an integer, is the word's number; a reserved select's kind is RAW. -/
theorem scaledValueIsExact : Obligations.ScaledValueIsExact := by
  refine ⟨sint17_eq, fun w => ⟨decodeMux_soc_val w, rfl, decodeMux_volt_val w, rfl, decodeMux_curr_val w, rfl⟩,
    fun w => ⟨rfl, rfl, rfl, rfl, rfl, rfl⟩, ?_, fun m v sel b0 b1 h => ?_⟩
  · rintro k w (rfl | rfl) <;> exact ⟨rfl, rfl⟩
  · rw [decodeBlock_reserved m v h]
    exact ⟨rfl, rfl⟩

/-- Settles O30: the lane's bit of the word, read out of the packing. -/
theorem flagLanes : Obligations.FlagLanes :=
  fun w _ hi => packFlags_getLsbD w hi

/-- Settles O3: the decoder on the written-out codes. -/
theorem specWordsDecode : Obligations.SpecWordsDecode := by
  unfold Obligations.SpecWordsDecode
  decide

/-- Settles O4: each register's row by its select, and the reserved codes by their numbers. -/
theorem registerSelectCodes : Obligations.RegisterSelectCodes :=
  ⟨registerOf_selectOf .status, registerOf_selectOf .reportedCapacity, registerOf_selectOf .reportedStateOfCharge,
    registerOf_selectOf .voltage, registerOf_selectOf .current, registerOf_selectOf .timeToEmpty,
    registerOf_selectOf .timeToFull, registerOf_selectOf .fullCapacity, registerOf_selectOf .coulombCount,
    registerOf_selectOf .packVoltage, registerOf_selectOf .packConfig, registerOf_selectOf .romId,
    registerOf_selectOf .senseResistor, (registerOf_eq_none_iff _).mpr (by decide),
    (registerOf_eq_none_iff _).mpr (by decide), (registerOf_eq_none_iff _).mpr (by decide)⟩

/-- Settles O5: the rows of the QRY table and their registers; a code of 2 bits is in the table. -/
theorem querySelectCodes : Obligations.QuerySelectCodes := by
  refine ⟨decode_encode_query .status, decode_encode_query .soc, decode_encode_query .volt, decode_encode_query .curr,
    fun v => ⟨rfl, rfl, rfl⟩, rfl, rfl, selectOf_qreg, fun code => ?_⟩
  rw [decode_qry_nil]
  have hcode := code.isLt
  exact exists_decodeQry (by rw [BitVec.toNat_setWidth]; omega)

/-- Settles O19: the DECODE form of each register's row. -/
theorem decodeFormObservesEveryOutput : Obligations.DecodeFormObservesEveryOutput :=
  ⟨decodesAs_resolve .status, decodesAs_resolve .reportedCapacity, decodesAs_resolve .reportedStateOfCharge,
    decodesAs_resolve .voltage, decodesAs_resolve .current, decodesAs_resolve .timeToEmpty,
    decodesAs_resolve .timeToFull, decodesAs_resolve .fullCapacity, decodesAs_resolve .coulombCount,
    decodesAs_resolve .packVoltage, decodesAs_resolve .packConfig, decodesAs_resolve .romId,
    decodesAs_resolve .senseResistor⟩

/-- Settles O24: the operation of each kind's row. -/
theorem kindOperations : Obligations.KindOperations :=
  fun s => ⟨exec_kind_eq .raw s, exec_kind_eq .status s, exec_kind_eq .soc s, exec_kind_eq .volt s,
    exec_kind_eq .curr s⟩

end Sys2Proof.Machine
end

section
/-! SUPPORT. The resolver's outputs on either side of the boundary (R80, R81), which query reads a register (R63), and
the RESOLVE operation in the terms of the rules (R82). -/

namespace Sys2Proof.Machine

/-! ### The two sides of the boundary -/

/-- Above 0x100 the upper device answers, and `BANK_UPPER` says so (R24, R80). -/
theorem resolve_above_boundary {a : RegAddress} (h : 0x100 < a.toNat) : resolveDev a = 0x0B ∧ bankUpper a = true :=
  ⟨(resolveDev_eq_upper_iff a).mpr h, decide_eq_true h⟩

/-- Up to and including 0x100 the lower device answers (R24, R80). -/
theorem resolve_upto_boundary {a : RegAddress} (h : a.toNat ≤ 0x100) : resolveDev a = 0x36 ∧ bankUpper a = false :=
  ⟨(resolveDev_eq_lower_iff a).mpr h, decide_eq_false (not_lt.mpr h)⟩

/-- Modulo 256 is the mask 0xFF: R81's two forms of the offset agree. -/
theorem resolveOff_setWidth (a : RegAddress) : (resolveOff a).setWidth 16 = a &&& 0xFF := by
  refine BitVec.eq_of_toNat_eq ?_
  have hmask : (a &&& 0xFF).toNat = a.toNat % 2 ^ 8 := Nat.and_two_pow_sub_one_eq_mod a.toNat 8
  rw [hmask, BitVec.toNat_setWidth, resolveOff_toNat]
  omega

/-! ### Which query reads a register -/

/-- No two queries read one register: the kind of the register gives the query back (R63, R64). -/
theorem qreg_inj (v : VoltReg) (q q' : Query) : qreg v q = qreg v q' ↔ q = q' := by
  refine ⟨fun h => ?_, congrArg (qreg v)⟩
  have hkind := congrArg (kindOf v) h
  rw [kindOf_qreg, kindOf_qreg] at hkind
  cases q <;> cases q' <;> simp at hkind ⊢

/-- A register of kind RAW is read by no query (R64). -/
theorem qreg_ne_of_kindOf_raw {v : VoltReg} {r : Register} (h : kindOf v r = .raw) (q : Query) : qreg v q ≠ r := by
  rintro rfl
  rw [kindOf_qreg] at h
  cases q <;> cases h

/-- Of the two voltage registers, the one `VOLT_REG` names is of kind VOLT and the other of kind RAW (R64). -/
theorem kindOf_voltReg (v w : VoltReg) : kindOf v w.register = if v = w then .volt else .raw := by
  cases v <;> cases w <;> rfl

/-- `KIND` of a voltage register is 3 under the `VOLT_REG` that names it, else 0 (R87, R93). -/
theorem expectedKind_voltReg (v w : VoltReg) : expectedKind v w.register = if v = w then 3 else 0 := by
  rw [← kindCode_kindOf, kindOf_voltReg, apply_ite kindCode, kindCode, kindCode]

/-- A voltage register is read by QUERY VOLT exactly when `VOLT_REG` names it, and by nothing else (R63). -/
theorem qreg_eq_voltReg_iff (v w : VoltReg) (q : Query) : qreg v q = w.register ↔ q = .volt ∧ v = w := by
  by_cases h : v = w
  · subst h
    exact (qreg_inj v q .volt).trans (and_iff_left rfl).symm
  · have hraw : kindOf v w.register = .raw := by rw [kindOf_voltReg, if_neg h]
    exact iff_of_false (qreg_ne_of_kindOf_raw hraw q) fun hq => h hq.2

/-! ### The RESOLVE operation in the terms of the rules -/

/-- RESOLVE of any register drives its select and observes the resolver, and changes nothing else (R73, R82). -/
theorem resolvesAs_resolve (r : Register) :
    ResolvesAs (Instr.resolve r) (selectOf r) (fun m => m.addr r) (fun v => expectedKind v r) := by
  intro s
  rw [exec_resolve, resolveOp_none, resolve_eq_expectedResolve]

/-- RESOLVE of a voltage register: its kind follows `VOLT_REG` (R87, R93). -/
theorem resolvesAs_voltReg (w : VoltReg) :
    ResolvesAs (Instr.resolve w.register) (selectOf w.register) (fun m => m.addr w.register)
      (fun v => if v = w then 3 else 0) := by
  simpa only [expectedKind_voltReg] using resolvesAs_resolve w.register

end Sys2Proof.Machine
end

section
/-! The statements of spec/40_resolver.md, settled. -/

namespace Sys2Proof.Machine

/-- Settles O12: the two sides of the boundary. -/
theorem resolveDevStrictBoundary : Obligations.ResolveDevStrictBoundary :=
  ⟨fun _ => resolve_above_boundary, fun _ => resolve_upto_boundary⟩

/-- Settles O13: the offset as a number, and the mask of eight ones as modulo 256. -/
theorem resolveOffIsLowByte : Obligations.ResolveOffIsLowByte :=
  fun a => ⟨resolveOff_toNat a, resolveOff_setWidth a⟩

/-- Settles O14: each row lies on one side of the boundary, and its offset is the address modulo 256. -/
theorem resolverBoundaryTable : Obligations.ResolverBoundaryTable := by
  intro a hmax
  have hoff := resolveOff_toNat a
  refine ⟨fun hlow => ?_, fun hat => ?_, fun hup => ?_⟩
  · obtain ⟨hdev, hbank⟩ := resolve_upto_boundary (a := a) (by omega)
    exact ⟨hdev, hbank, by omega⟩
  · obtain ⟨hdev, hbank⟩ := resolve_upto_boundary (a := a) (by omega)
    exact ⟨hdev, hbank, (resolveOff_eq_iff a 0).mpr (by rw [hat]; rfl)⟩
  · obtain ⟨hdev, hbank⟩ := resolve_above_boundary (a := a) (by omega)
    exact ⟨hdev, hbank, by omega, by omega⟩

/-- Settles O16: the RESOLVE form of each row, and that no two queries read one register. -/
theorem resolveMeasuredRegisters : Obligations.ResolveMeasuredRegisters :=
  ⟨resolvesAs_resolve .status, resolvesAs_resolve .reportedStateOfCharge, resolvesAs_resolve .current,
    fun v q => qreg_inj v q .status, fun v q => qreg_inj v q .soc, fun v q => qreg_inj v q .curr⟩

/-- Settles O17: the RESOLVE form and the reading query of a voltage register, at each of the two. -/
theorem resolveVoltageRegisters : Obligations.ResolveVoltageRegisters :=
  ⟨resolvesAs_voltReg .voltage, resolvesAs_voltReg .packVoltage, fun v q => qreg_eq_voltReg_iff v .voltage q,
    fun v q => qreg_eq_voltReg_iff v .packVoltage q, rfl⟩

/-- Settles O18: the RESOLVE form of each row; each of the eight is of kind RAW, which no query reads. -/
theorem resolveUndecodedRegisters : Obligations.ResolveUndecodedRegisters := by
  refine ⟨resolvesAs_resolve .reportedCapacity, resolvesAs_resolve .timeToEmpty, resolvesAs_resolve .timeToFull,
    resolvesAs_resolve .fullCapacity, resolvesAs_resolve .coulombCount, resolvesAs_resolve .packConfig,
    resolvesAs_resolve .romId, resolvesAs_resolve .senseResistor, fun v q hmem => ?_⟩
  have hraw : ∀ r ∈ [Register.reportedCapacity, .timeToEmpty, .timeToFull, .fullCapacity, .coulombCount, .packConfig,
      .romId, .senseResistor], kindOf v r = .raw := by
    simp [kindOf]
  exact qreg_ne_of_kindOf_raw (hraw _ hmem) q rfl

/-- Settles O32: the outputs are the block's function of the five inputs, and a DECODE observes them after driving the
select and the two bytes, so that only the constants are left to differ. -/
theorem outputsDependOnInputsOnly : Obligations.OutputsDependOnInputsOnly := by
  refine ⟨fun s t hmap hvolt hsel hrx0 hrx1 => ?_, fun s t r p hmap hvolt => ?_⟩
  · rw [State.outputs, hmap, hvolt, hsel, hrx0, hrx1, State.outputs]
  · rw [exec_resolve, exec_resolve, resolveOp_some, resolveOp_some, hmap, hvolt]
    exact ⟨_, _, _, rfl, rfl, rfl, rfl⟩

end Sys2Proof.Machine
end

section
/-! SUPPORT. One word's scaled value against the next word's, and the signed number of a word (R101 to R103, R111);
the word bit that sets a lane of `FLAGS` alone (R65). -/

namespace Sys2Proof.Machine

/-! ### The numbers of a word and of the next word -/

/-- Below 0xFFFF the next word's unsigned number is one higher. -/
theorem toNat_succ {w : RawWord} (h : w ≠ 0xFFFF) : (w + 1).toNat = w.toNat + 1 := by
  bv_omega

/-- Bit 15 is the sign of a word, and takes 65536 off its unsigned number (R103). -/
theorem sint_eq (w : RawWord) : sint w = if w.getLsbD 15 then (w.toNat : Int) - 65536 else w.toNat := by
  rw [sint, BitVec.toInt_eq_msb_cond, BitVec.msb_eq_getLsbD_last]
  rfl

/-- The signed number of a word is one of 16 bits (R103). -/
theorem sint_range (w : RawWord) : -32768 ≤ sint w ∧ sint w ≤ 32767 := by
  have hhigh : sint w < 32768 := BitVec.toInt_lt
  exact ⟨BitVec.le_toInt w, by omega⟩

/-- But for 0x7FFF, the next word's signed number is one higher; from 0xFFFF to 0x0000 it is -1 and then 0. -/
theorem sint_succ {w : RawWord} (h : w ≠ 0x7FFF) : sint (w + 1) = sint w + 1 := by
  rw [sint, sint, BitVec.toInt_eq_toNat_cond, BitVec.toInt_eq_toNat_cond]
  by_cases htop : w = 0xFFFF
  · subst htop
    rfl
  · rw [toNat_succ htop]
    bv_omega

/-! ### The steps of a scale -/

/-- On one scale, the value of the next integer is one step higher. -/
theorem mkRat_succ_sub (n : Int) {d : Nat} (hd : d ≠ 0) : mkRat (n + 1) d - mkRat n d = mkRat 1 d := by
  rw [← Rat.mkRat_add_mkRat_of_den n 1 hd, add_sub_cancel_left]

/-- On one scale, the next word's unsigned value is one step higher (R111). -/
theorem mkRat_toNat_succ_sub {w : RawWord} (h : w ≠ 0xFFFF) {d : Nat} (hd : d ≠ 0) :
    mkRat (w + 1).toNat d - mkRat w.toNat d = mkRat 1 d := by
  rw [toNat_succ h, Nat.cast_succ, mkRat_succ_sub _ hd]

/-- The next word's current is one step higher (R111). -/
theorem decodeCurr_succ_sub {w : RawWord} (h : w ≠ 0x7FFF) :
    (decodeCurr (w + 1)).value - (decodeCurr w).value = mkRat 1 6400 := by
  rw [decodeCurr, decodeCurr, sint_succ h, mkRat_succ_sub _ (by decide)]

/-- A word with its low byte 0 reads as its high byte in whole percents (R101). -/
theorem decodeSoc_highByte (n : BitVec 8) : (decodeSoc (n.setWidth 16 <<< 8)).value = n.toNat := by
  have hn := n.isLt
  have hword : (n.setWidth 16 <<< 8).toNat = 256 * n.toNat := by
    rw [BitVec.toNat_shiftLeft, BitVec.toNat_setWidth, Nat.shiftLeft_eq]
    omega
  calc (decodeSoc (n.setWidth 16 <<< 8)).value
      = mkRat (256 * n.toNat : Nat) 256 := by rw [decodeSoc, hword]
    _ = n.toNat := by
      rw [Rat.mkRat_eq_div, Int.cast_natCast, Nat.cast_mul]
      exact mul_div_cancel_left₀ _ (by norm_num)

/-! ### The flags -/

/-- A lane's bit of the word, alone, sets that lane alone (R65). -/
theorem packFlags_laneBit {i : Nat} (hi : i < 13) : packFlags (1#16 <<< laneBit i) = 1#13 <<< i := by
  revert i
  decide

/-- Each lane's bit is one of the word's. -/
theorem laneBit_lt {i : Nat} (hi : i < 13) : laneBit i < 16 := by
  unfold laneBit
  split <;> omega

end Sys2Proof.Machine
end

section
/-! The statements of spec/41_decoder.md, settled. -/

namespace Sys2Proof.Machine

/-- Settles O26: the 17-bit numerator keeps the word's unsigned number, and a scale of 256 makes the high byte whole
percents. -/
theorem unsignedScaleDecoders : Obligations.UnsignedScaleDecoders := by
  refine ⟨fun v => ⟨rfl, ?_⟩, rfl, rfl, fun w => ⟨sint17_zeroExtend w, rfl, rfl, rfl⟩,
    fun w => ⟨sint17_zeroExtend w, rfl, rfl, rfl⟩, decodeSoc_highByte, rfl, rfl, rfl, rfl⟩
  rw [kindOf_voltReg, if_pos rfl]

/-- Settles O27: bit 15 is the sign, and the 17-bit numerator keeps the signed number. -/
theorem currentIsTwosComplement : Obligations.CurrentIsTwosComplement :=
  ⟨fun _ => rfl, rfl, sint_eq, fun w => ⟨sint17_signExtend w, rfl, rfl, rfl⟩, sint_range, rfl, rfl, rfl, rfl⟩

/-- Settles O28: the range of a word's number on each scale, with the words that attain its ends; the next word's number
is one higher; a flag's word bit is its lane's. -/
theorem outputRanges : Obligations.OutputRanges := by
  refine ⟨fun w => mkRat_toNat_range w (by decide), fun w => mkRat_toNat_range w (by decide),
    fun w => mkRat_toInt_range w (by decide), ⟨0x0000, rfl⟩, ⟨0xFFFF, rfl⟩, ⟨0x0000, rfl⟩, ⟨0xFFFF, rfl⟩,
    ⟨0x8000, rfl⟩, ⟨0x7FFF, rfl⟩, fun _ h => ?_, fun _ => decodeCurr_succ_sub, rfl, rfl,
    fun i hi => ⟨laneBit i, laneBit_lt hi, packFlags_laneBit hi⟩⟩
  exact ⟨mkRat_toNat_succ_sub h (d := 256) (by decide), mkRat_toNat_succ_sub h (d := 800) (by decide)⟩

/-- Settles O23: the qualified outputs of each kind, with `WORD` and `FLAGS` the same under all five. -/
theorem kindMultiplexer : Obligations.KindMultiplexer :=
  fun _ => ⟨rfl, rfl, rfl, rfl, rfl⟩

/-- Settles O29: the flag record reads each bit by its number, and only kind STATUS qualifies the flags. -/
theorem statusFlagBits : Obligations.StatusFlagBits := by
  refine ⟨fun _ => rfl, rfl, fun _ => rfl, fun _ _ => rfl, fun k w => ?_, rfl, rfl, rfl⟩
  cases k <;> simp [decodeMux, flagsValid]

end Sys2Proof.Machine
end

section
/-! SUPPORT. The row of a query in the terms of the rules: what it does on a given answer, whatever the answer is, and
exactly what it leaves behind (R120, R125, R126). -/

namespace Sys2Proof.Machine

/-- A bus error is the result of whichever query it answers (R125). -/
@[simp] theorem expectedResult_err (q : Query) (e : BusErr) : expectedResult q (.err e) = .err e := by
  cases q <;> rfl

/-- What the row of a query did that the bus answered with `a`: one transaction and one result; the constants and the
pending commands stay (R126). Steps that take the commands off the pending list are `QueriesRan`. -/
structure QueryAnswered (q : Query) (a : BusAnswer) (s t : State) : Prop where
  busLog  : t.busLog = s.busLog ++ [expectedRequest (expectedAddress s.regMap s.voltReg q)]
  results : t.results = s.results ++ [.query q (expectedResult q a)]
  answers : t.answers = s.answers.tail
  pending : t.pending = s.pending
  regMap  : t.regMap = s.regMap
  voltReg : t.voltReg = s.voltReg

/-- A query's row runs the query in every state, on the first answer of the list or, where it is empty, on some answer
(log 4). -/
theorem exec_query_next (q : Query) (s : State) :
    ∃ a t, exec (Instr.query q) s = .next t ∧ QueryAnswered q a s t ∧
      (s.answers = [] ∨ s.answers.head? = some a) := by
  obtain ⟨a, t, hop, hmap, hvolt, hpend, _, hans, hbus, hres, hhead⟩ := queryOp_next q s
  rw [requestFor_eq_expectedRequest] at hbus
  exact ⟨a, t, (exec_query q s).trans hop, ⟨hbus, hres, hans, hpend, hmap, hvolt⟩, hhead⟩

/-- A query's row runs the query on the answer that stands first in the list. -/
theorem exec_query_on (q : Query) (a : BusAnswer) (rest : List BusAnswer) (s : State) :
    ∃ t, exec (Instr.query q) { s with answers := a :: rest } = .next t ∧
      QueryAnswered q a { s with answers := a :: rest } t := by
  obtain ⟨a', t, hexec, hdid, hhead⟩ := exec_query_next q { s with answers := a :: rest }
  obtain rfl : a = a' := by simpa using hhead
  exact ⟨t, hexec, hdid⟩

/-- The row of a query reads as R121 to R124 say, with the value they give the query's word. -/
theorem queryReads_query {q : Query} {value : RawWord → DecodedValue}
    (hvalue : ∀ b0 b1, expectedResult q (.ok b0 b1) = .ok (value (assemble b0 b1))) :
    QueryReads (Instr.query q) q value := by
  refine ⟨fun s b0 b1 rest => ?_, fun s e rest => ⟨_, (exec_query q _).trans (queryOp_err q _ e rest rfl), ?_⟩⟩
  · rw [exec_query, queryOp_ok q _ b0 b1 rest rfl, selectOf_qreg, requestFor_eq_expectedRequest, hvalue,
      assemble_eq_expectedWord]
  · rw [selectOf_qreg, requestFor_eq_expectedRequest]

/-- The least current, -5.12 ampere, is that of the word 0x8000 (R124). -/
theorem mkRat_leastCurrent : mkRat (-512) 100 = mkRat (-32768) 6400 := rfl

end Sys2Proof.Machine
end

section
/-! The statements of spec/42_queries.md, settled. -/

namespace Sys2Proof.Machine

/-- Settles O37: the query runs on the error, and an error is its own result. -/
theorem transportErrorPropagates : Obligations.TransportErrorPropagates := by
  intro q s e rest
  obtain ⟨t, hexec, hdid⟩ := exec_query_on q (.err e) rest s
  exact ⟨t, hexec, expectedResult_err q e ▸ hdid.results, hdid.busLog, hdid.answers, hdid.pending,
    hdid.regMap, hdid.voltReg⟩

/-- Settles O38: a query runs in every state, on whatever answer the bus gives. -/
theorem oneTransactionPerQuery : Obligations.OneTransactionPerQuery := by
  intro q s
  obtain ⟨a, t, hexec, hdid, _⟩ := exec_query_next q s
  exact ⟨t, expectedResult q a, hexec, hdid.busLog, hdid.results, hdid.answers, hdid.pending,
    hdid.regMap, hdid.voltReg⟩

/-- Settles O39: from either state the result is the one the rules give the query on that answer. -/
theorem queryResultsAreIndependent : Obligations.QueryResultsAreIndependent := by
  intro q a s s' rest rest'
  obtain ⟨t, hexec, hdid⟩ := exec_query_on q a rest s
  obtain ⟨t', hexec', hdid'⟩ := exec_query_on q a rest' s'
  exact ⟨t, t', expectedResult q a, hexec, hexec', hdid.results, hdid'.results⟩

/-- Settles O33: the row of the query, with the flags of its word. -/
theorem queryStatusResult : Obligations.QueryStatusResult :=
  queryReads_query (q := .status) fun _ _ => rfl

/-- Settles O34: the row of the query, and the range of an unsigned word on its scale. -/
theorem querySocResult : Obligations.QuerySocResult :=
  ⟨queryReads_query (q := .soc) fun _ _ => rfl, fun w => mkRat_toNat_range w (by decide)⟩

/-- Settles O35: the row of the query, and the range of an unsigned word on its scale. -/
theorem queryVoltResult : Obligations.QueryVoltResult :=
  ⟨queryReads_query (q := .volt) fun _ _ => rfl, fun w => mkRat_toNat_range w (by decide)⟩

/-- Settles O36: the row of the query, and the range of a signed word on its scale. -/
theorem queryCurrResult : Obligations.QueryCurrResult :=
  ⟨queryReads_query (q := .curr) fun _ _ => rfl, fun w => mkRat_leastCurrent ▸ mkRat_toInt_range w (by decide)⟩

end Sys2Proof.Machine
end

section
/-! SUPPORT. Every instruction leaves the constants (R161); the decoder's outputs on a register's select follow that
register's kind on the present bytes (R162, R167). -/

namespace Sys2Proof.Machine

/-- An instruction that completes leaves the constants as they are (R161). -/
theorem exec_constants {s t : State} {i : Instr} (ht : exec i s = .next t) :
    t.regMap = s.regMap ∧ t.voltReg = s.voltReg := by
  obtain ⟨r, rx, rfl⟩ | ⟨q, rfl⟩ | ⟨k, rfl⟩ | ⟨_, _, href⟩ := instr_cases i
  · obtain ⟨_, _, hop, hmap, hvolt, _⟩ := resolveOp_next r rx s
    obtain rfl := Host.Outcome.next.inj (hop.symm.trans (exec_resolve r rx s ▸ ht))
    exact ⟨hmap, hvolt⟩
  · obtain ⟨_, _, hop, hmap, hvolt, _⟩ := queryOp_next q s
    obtain rfl := Host.Outcome.next.inj (hop.symm.trans (exec_query q s ▸ ht))
    exact ⟨hmap, hvolt⟩
  · obtain rfl := Host.Outcome.next.inj ((kindOp_eq k s).symm.trans (exec_kind k s ▸ ht))
    exact ⟨rfl, rfl⟩
  · cases (href s).symm.trans ht

/-- With a register's select driven, the decoder's outputs are those of its kind on the two present bytes (R162). -/
theorem State.outputs_decode_of_regSel {s : State} {r : Register} (hsel : s.regSel = selectOf r) :
    s.outputs.decode = expectedDecode (expectedKind s.voltReg r) s.rx0 s.rx1 := by
  rw [State.outputs, hsel, decodeBlock_selectOf]

end Sys2Proof.Machine
end

section
/-! The statements of spec/70_reset_and_hazards.md, settled. -/

namespace Sys2Proof.Machine

/-- Settles O10: a completed step changed nothing or ran one instruction, and no instruction changes the constants. -/
theorem constantsNeverChange : Obligations.ConstantsNeverChange := by
  intro s t hstep
  obtain ⟨_, rfl⟩ | ⟨_, rest, _, _, _, hexec⟩ := step_cases hstep
  · exact ⟨rfl, rfl⟩
  · exact exec_constants (s := { s with pending := rest }) hexec

/-- Settles O41: the query drives its register's select and the two bytes, RESOLVE then the select alone, and after
each the outputs are those of the select now driven. -/
theorem staleSelectMisdecodes : Obligations.StaleSelectMisdecodes := by
  intro q r s b0 b1 rest
  have hquery := (exec_query q _).trans (queryOp_ok q { s with answers := .ok b0 b1 :: rest } b0 b1 rest rfl)
  exact ⟨_, _, hquery, State.outputs_decode_of_regSel rfl, resolvesAs_resolve r _, State.outputs_decode_of_regSel rfl⟩

end Sys2Proof.Machine
end
